-- ==== Sys2Proof/Word.lean ====
section
/-! DEFINITION. The word types of the core: the byte, the input event word and the nine-byte frame
(00_scope.md R19, 30_encoding.md R80 and R89). -/

namespace Sys2Proof

/-- A byte of the stream, of a buffer or of an output port (R19). -/
abbrev Byte := BitVec 8

/-- The input signals sampled in one clock: `R E V T D[7:0]`, bit 11 to bit 0 (R89). -/
abbrev EvWord := BitVec 12

/-- Nine bytes, byte 0 first: the shape of `acc`, of `good` and of a frame's payload (R26, R27, R80). -/
abbrev Frame := Vector Byte 9

end Sys2Proof
end

