-- ==== Sys2Proof/Syntax.lean ====
section
/-! DEFINITION. The operations of the core: the six input events (30_encoding.md R90) and the
fifteen function-code rows (42_lookup_rom.md R160), one constructor per row of the opcode table. -/

namespace Sys2Proof

/-- The 14 known functions, in the source's order (R160). -/
inductive Func where
  | voltage
  | currentUa
  | currentMa
  | currentA
  | ohms
  | continuity
  | diode
  | freqRpm
  | capacitance
  | temperature
  | adp0
  | adp1
  | adp2
  | adp3
  deriving DecidableEq, Repr

/-- The known functions, function id 0 first (R160). -/
def Func.all : List Func :=
  [.voltage, .currentUa, .currentMa, .currentA, .ohms, .continuity, .diode, .freqRpm,
   .capacitance, .temperature, .adp0, .adp1, .adp2, .adp3]

/-- What byte 5 stands for: a known function, or the distinct "Unrecognized" variant (R160, R161). -/
inductive FuncId where
  | known (f : Func)
  | unrecognized
  deriving DecidableEq, Repr

/-- One operation. The first six are the events of one clock (format EV); the others are the
function-code rows (format FC), each one read of the decoded outputs of a frame whose byte 5 holds
that row's code. -/
inductive Instr where
  /-- R110. -/
  | reset
  /-- R112. -/
  | commsError
  /-- R118. -/
  | term
  /-- R114, with the payload byte. -/
  | data (b : Byte)
  /-- R113. -/
  | timeout
  /-- R111. -/
  | idle
  | fcVoltage
  | fcCurrentUa
  | fcCurrentMa
  | fcCurrentA
  | fcOhms
  | fcContinuity
  | fcDiode
  | fcFreqRpm
  | fcCapacitance
  | fcTemperature
  | fcAdp0
  | fcAdp1
  | fcAdp2
  | fcAdp3
  /-- R162, with the byte that equals no entry of the table. -/
  | fcUnrecognized (code : Byte)
  deriving DecidableEq, Repr

end Sys2Proof
end

