-- ==== Sys2Proof/Config.lean ====
section
/-! DEFINITION. The fixed constants (00_scope.md R5), the parameters and when a set of them is
well-formed (R6 to R9), and the parameters of the machine that State.reset describes. -/

namespace Sys2Proof

/-- `N_PAYLOAD` (R5). -/
def payloadLength : Nat := 9

/-- `TERM` (R5). -/
def terminator : Byte := 0x0A

/-- `FUNC_CODE[VOLTAGE]`, the one entry the source gives (R7). -/
def voltageCode : Byte := 0x3B

/-- The 13 OPEN entries of the function-code table (R7, R160). -/
structure OpenCodes where
  currentUa : Byte
  currentMa : Byte
  currentA : Byte
  ohms : Byte
  continuity : Byte
  diode : Byte
  freqRpm : Byte
  capacitance : Byte
  temperature : Byte
  adp0 : Byte
  adp1 : Byte
  adp2 : Byte
  adp3 : Byte
  deriving DecidableEq, Repr

/-- `FUNC_CODE[f]` (R63, R160). -/
def OpenCodes.code (o : OpenCodes) : Func → Byte
  | .voltage => voltageCode
  | .currentUa => o.currentUa
  | .currentMa => o.currentMa
  | .currentA => o.currentA
  | .ohms => o.ohms
  | .continuity => o.continuity
  | .diode => o.diode
  | .freqRpm => o.freqRpm
  | .capacitance => o.capacitance
  | .temperature => o.temperature
  | .adp0 => o.adp0
  | .adp1 => o.adp1
  | .adp2 => o.adp2
  | .adp3 => o.adp3

/-- The 14 entries in order (R63). -/
def OpenCodes.table (o : OpenCodes) : List Byte := Func.all.map o.code

/-- R7: pairwise distinct, and each below 0x40. -/
def OpenCodes.wf (o : OpenCodes) : Bool :=
  decide o.table.Nodup && o.table.all (fun b => decide (b.toNat < 0x40))

/-- A function-code table that meets R7. An ill-formed one cannot be built; the default value only
shows that such a table exists, and nothing uses it. -/
structure FuncCodes where
  openCodes : OpenCodes := ⟨0, 1, 2, 3, 4, 5, 6, 7, 8, 9, 10, 11, 12⟩
  wf : openCodes.wf = true := by decide
  deriving DecidableEq, Repr, Inhabited

/-- `FUNC_CODE[f]` of a well-formed table. -/
def FuncCodes.code (c : FuncCodes) : Func → Byte := c.openCodes.code

/-- The 13 OPEN entries of this hardware: well-formed, otherwise not known (R7, R18; log 2). -/
opaque Config.funcCodes : FuncCodes

/-- `DIODE_DP` (R8). -/
inductive DiodeDp where
  | one
  | three
  deriving DecidableEq, Repr

def DiodeDp.places : DiodeDp → Nat
  | .one => 1
  | .three => 3

/-- `AMP_DP` (R8). -/
inductive AmpDp where
  | zero
  | two
  deriving DecidableEq, Repr

def AmpDp.places : AmpDp → Nat
  | .zero => 0
  | .two => 2

/-- A well-formed parameter set (R6 to R9, R232 (1)). The default values are the spec's defaults. -/
structure Params where
  codes : FuncCodes
  maxLen : Nat := 10
  maxLenRange : 10 ≤ maxLen ∧ maxLen ≤ 255 := by decide
  diodeDp : DiodeDp := .three
  ampDp : AmpDp := .two
  currentPrefixSwap : Bool := false
  timeoutEndsFrame : Bool := false
  deriving DecidableEq, Repr

/-- The parameters of the machine after reset: the spec's defaults and the open codes (log 2, 3). -/
def Config.params : Params where
  codes := Config.funcCodes

/-- A parameter set as written down, before it is checked (R7, R246). -/
structure RawParams where
  openCodes : OpenCodes
  maxLen : Nat
  diodeDp : DiodeDp
  ampDp : AmpDp
  currentPrefixSwap : Bool
  timeoutEndsFrame : Bool
  deriving DecidableEq, Repr

end Sys2Proof
end

