-- ==== Sys2Proof/WellFormed.lean ====
section
/-! DEFINITION. When an operation is well-formed: its operand is one that its encoding admits. -/

namespace Sys2Proof

/-- A DATA byte is never the terminator (30_encoding.md R90, 40_synchronizer.md R114); an
unrecognized code equals no entry of the function-code table (42_lookup_rom.md R160, R162). -/
def Instr.wf (c : FuncCodes) : Instr → Bool
  | .data b => b != terminator
  | .fcUnrecognized code => Func.all.all (fun f => c.code f != code)
  | .reset | .commsError | .term | .timeout | .idle => true
  | .fcVoltage | .fcCurrentUa | .fcCurrentMa | .fcCurrentA | .fcOhms | .fcContinuity | .fcDiode
  | .fcFreqRpm | .fcCapacitance | .fcTemperature | .fcAdp0 | .fcAdp1 | .fcAdp2 | .fcAdp3 => true

end Sys2Proof
end

