-- ==== Sys2Proof/Decode.lean ====
section
/-! DEFINITION. The two formats: EV words (30_encoding.md R89, R90, R95) and FC bytes (R83,
42_lookup_rom.md R161), their decoder and their encoder. -/

namespace Sys2Proof

/-- A word of one of the two formats. -/
inductive Code where
  /-- The signals of one clock (R89). -/
  | ev (w : EvWord)
  /-- Byte 5 of a frame (R83). -/
  | fc (b : Byte)
  deriving DecidableEq, Repr

/-- Why bits are no word of either format. -/
inductive DecodeError where
  /-- Bits above bit 11 are set: an EV word has 12 bits (R89). -/
  | evWordTooWide
  /-- Bits above bit 7 are set: an FC word has 8 bits (R83). -/
  | fcByteTooWide
  /-- The length is neither an EV word's nor an FC byte's. -/
  | noSuchFormat
  deriving DecidableEq, Repr

/-- The word that the opcode table's numbering gives: 8 bits are an FC byte, 12 bits (16 in whole
bytes) an EV word (log 8). -/
def Code.ofTable (nbits w : Nat) : Except DecodeError Code :=
  if nbits = 8 then
    if w < 2 ^ 8 then .ok (.fc (BitVec.ofNat 8 w)) else .error .fcByteTooWide
  else if nbits = 12 ∨ nbits = 16 then
    if w < 2 ^ 12 then .ok (.ev (BitVec.ofNat 12 w)) else .error .evWordTooWide
  else .error .noSuchFormat

/-- `rx_data` of an EV word (R89). -/
def EvWord.rxData (w : EvWord) : Byte := w.extractLsb' 0 8

/-- Priority decode of the signals of one clock (R95). -/
def decodeEv (w : EvWord) : Instr :=
  if w[11] then .reset
  else if w[10] then .commsError
  else if w[9] && EvWord.rxData w == terminator then .term
  else if w[9] then .data (EvWord.rxData w)
  else if w[8] then .timeout
  else .idle

/-- Function decode: the function whose entry equals the whole byte, else Unrecognized (R161, R173). -/
def decodeFuncId (c : FuncCodes) (b : Byte) : FuncId :=
  match Func.all.find? (fun f => c.code f == b) with
  | some f => .known f
  | none => .unrecognized

/-- The opcode-table row of a function id; the unrecognized row keeps the byte (R160). -/
def FuncId.instr (code : Byte) : FuncId → Instr
  | .known .voltage => .fcVoltage
  | .known .currentUa => .fcCurrentUa
  | .known .currentMa => .fcCurrentMa
  | .known .currentA => .fcCurrentA
  | .known .ohms => .fcOhms
  | .known .continuity => .fcContinuity
  | .known .diode => .fcDiode
  | .known .freqRpm => .fcFreqRpm
  | .known .capacitance => .fcCapacitance
  | .known .temperature => .fcTemperature
  | .known .adp0 => .fcAdp0
  | .known .adp1 => .fcAdp1
  | .known .adp2 => .fcAdp2
  | .known .adp3 => .fcAdp3
  | .unrecognized => .fcUnrecognized code

/-- The row that a frame's byte 5 selects. -/
def decodeFc (c : FuncCodes) (b : Byte) : Instr := (decodeFuncId c b).instr b

/-- Every word of either format decodes: nothing the core receives is illegal (R94). -/
def decode (c : FuncCodes) : Code → Instr
  | .ev w => decodeEv w
  | .fc b => decodeFc c b

/-- The operation that this hardware's decoder reads from a row's bits. -/
def decodeTableWord (nbits w : Nat) : Option Instr :=
  match Code.ofTable nbits w with
  | .ok code => some (decode Config.funcCodes code)
  | .error _ => none

/-- The word of an operation, from R90 and R160; a signal that does not matter is 0. -/
def encode (c : FuncCodes) : Instr → Code
  | .reset => .ev 0b1000_00000000#12
  | .commsError => .ev 0b0100_00000000#12
  | .term => .ev 0b0010_00001010#12
  | .data b => .ev (0b0010#4 ++ b)
  | .timeout => .ev 0b0001_00000000#12
  | .idle => .ev 0b0000_00000000#12
  | .fcVoltage => .fc (c.code .voltage)
  | .fcCurrentUa => .fc (c.code .currentUa)
  | .fcCurrentMa => .fc (c.code .currentMa)
  | .fcCurrentA => .fc (c.code .currentA)
  | .fcOhms => .fc (c.code .ohms)
  | .fcContinuity => .fc (c.code .continuity)
  | .fcDiode => .fc (c.code .diode)
  | .fcFreqRpm => .fc (c.code .freqRpm)
  | .fcCapacitance => .fc (c.code .capacitance)
  | .fcTemperature => .fc (c.code .temperature)
  | .fcAdp0 => .fc (c.code .adp0)
  | .fcAdp1 => .fc (c.code .adp1)
  | .fcAdp2 => .fc (c.code .adp2)
  | .fcAdp3 => .fc (c.code .adp3)
  | .fcUnrecognized code => .fc code

end Sys2Proof
end

