-- ==== Sys2Proof/Machine/State.lean ====
section
/-! DEFINITION. The state of the core (10_state.md R24), what the environment does to it, the reasons
a read or a parameter set is turned away, and the state after reset (R40). -/

namespace Sys2Proof.Machine

/-- `frame_status`: the classification of the most recent cycle completion (R30). -/
inductive FrameStatus where
  | none
  | valid
  | framingError
  | commsError
  deriving DecidableEq, Repr

/-- `disp_state`: what a display driven by the core shows (R32). -/
inductive DispState where
  | noData
  | fresh
  | stale
  | noConn
  deriving DecidableEq, Repr

/-- What the environment does next. -/
inductive Input where
  /-- A rising edge of `clk` that samples these signals (R21, R89). -/
  | clock (w : EvWord)
  /-- A read of the decoded output ports between two edges (R23, R71; log 5). -/
  | observe
  deriving DecidableEq, Repr

/-- The decoded output ports, each with its width (R23). -/
structure Reading where
  rng : BitVec 4
  digit1 : BitVec 4
  digit2 : BitVec 4
  digit3 : BitVec 4
  digit4 : BitVec 4
  overload : Bool
  lowbat : Bool
  neg : Bool
  judge : Bool
  mag : BitVec 15
  value : BitVec 16
  opt1 : Byte
  opt2 : Byte
  fid : BitVec 4
  funcKnown : Bool
  modeId : BitVec 4
  dp : BitVec 2
  prefixCode : BitVec 3
  unitCode : BitVec 4
  deriving DecidableEq, Repr

/-- The registers of R24, the parameters (log 1), and the model's own `inputs` and `seen` (log 4, 5). -/
structure State where
  /-- The elaboration-time constants of R6 to R9. -/
  params : Params
  /-- `cnt` (R25). -/
  cnt : Byte
  /-- `acc[0..8]` (R26). -/
  acc : Frame
  /-- `good[0..8]` (R27). -/
  good : Frame
  /-- `has_good` (R28). -/
  hasGood : Bool
  /-- `frame_done` (R29). -/
  frameDone : Bool
  /-- `frame_status` (R30). -/
  frameStatus : FrameStatus
  /-- `last_count` (R31). -/
  lastCount : Byte
  /-- `disp_state` (R32). -/
  dispState : DispState
  /-- The model's own: what the environment does next, oldest first. -/
  inputs : List Input
  /-- The model's own: the decoded output ports as a consumer last read them. -/
  seen : Option Reading
  deriving DecidableEq, Repr

/-- The reasons the machine stops. -/
inductive Fault where
  /-- Raised by a read of `good` or of the decoded outputs while `has_good = 0` (R41, I10). Safe: no
  value of an unwritten frame is given. -/
  | goodUnwritten
  deriving DecidableEq, Repr

/-- The reasons something has no meaning. -/
inductive Refusal where
  /-- For an operation without a meaning; no arm of `exec` raises it. Safe. -/
  | notModelled (mnemonic : String)
  /-- Raised by `elaborateParams` for a parameter set that R6 or R7 forbids (R246, I12). Safe. -/
  | illFormedParams
  /-- Raised by the reference formatter for a prefix code 6 or 7 or a unit code 9 to 15, which the
  core never produces (R91, R92, I17). Safe. -/
  | reservedOutputCode
  deriving DecidableEq, Repr

/-- A value, a fault or a refusal: the host's outcome type at the model's reasons. -/
abbrev Result (α : Type) := Host.Outcome α Fault Refusal

/-- After a clock with `rst = 1` (R40). The bytes of `acc` and `good` are the model's choice (log 6);
`inputs` and `seen` are the model's own. -/
def State.reset : State where
  params := Config.params
  cnt := 0
  acc := Vector.replicate 9 0
  good := Vector.replicate 9 0
  hasGood := false
  frameDone := false
  frameStatus := .none
  lastCount := 0
  dispState := .noData
  inputs := []
  seen := Option.none

end Sys2Proof.Machine
end

