-- ==== Sys2Proof/Machine/Flags.lean ====
section
/-! DEFINITION. The status flags of byte 6 (30_encoding.md R84, 41_converter.md R142, R146) and the
codes of the core's own status registers (10_state.md R22, R30, R32). -/

namespace Sys2Proof.Machine

/-- OverLimit, 0x01 (R142, R146). -/
def overload (g : Frame) : Bool := g[6][0]

/-- LowBattery, 0x02 (R142). -/
def lowbat (g : Frame) : Bool := g[6][1]

/-- NegativeSign, 0x04 (R142). -/
def neg (g : Frame) : Bool := g[6][2]

/-- Judge, 0x08 (R142). -/
def judge (g : Frame) : Bool := g[6][3]

/-- The 2-bit code of `frame_status` (R30). -/
def FrameStatus.code : FrameStatus → BitVec 2
  | .none => 0
  | .valid => 1
  | .framingError => 2
  | .commsError => 3

/-- The 2-bit code of `disp_state` (R32). -/
def DispState.code : DispState → BitVec 2
  | .noData => 0
  | .fresh => 1
  | .stale => 2
  | .noConn => 3

/-- The port `frame_status` (R22). -/
def State.frameStatusPort (s : State) : BitVec 2 := s.frameStatus.code

/-- The port `disp_state` (R22). -/
def State.dispStatePort (s : State) : BitVec 2 := s.dispState.code

end Sys2Proof.Machine
end

