-- ==== Sys2Proof/Machine/Operands.lean ====
section
/-! DEFINITION. The operands of the decode: bit fields of one byte of a frame (30_encoding.md R80 to
R86 and R96, 41_converter.md R140, R141, R147), and the ports that show `good` itself. -/

namespace Sys2Proof.Machine

/-- Bits 3:0 of a byte. -/
def nibble (b : Byte) : BitVec 4 := b.extractLsb' 0 4

/-- `rng` (R140). -/
def rng (g : Frame) : BitVec 4 := nibble g[0]

/-- `digit1`, the thousands (R141). -/
def digit1 (g : Frame) : BitVec 4 := nibble g[1]

/-- `digit2`, the hundreds (R141). -/
def digit2 (g : Frame) : BitVec 4 := nibble g[2]

/-- `digit3`, the tens (R141). -/
def digit3 (g : Frame) : BitVec 4 := nibble g[3]

/-- `digit4`, the units (R141). -/
def digit4 (g : Frame) : BitVec 4 := nibble g[4]

/-- The function code, all 8 bits of byte 5 (R83). -/
def functionCode (g : Frame) : Byte := g[5]

/-- `opt1`, raw (R147). -/
def opt1 (g : Frame) : Byte := g[7]

/-- `opt2`, raw (R147). -/
def opt2 (g : Frame) : Byte := g[8]

/-- The port `good_byte<i>` (R22); unwritten while `has_good = 0` (R41; log 7). -/
def State.goodByte (s : State) (i : Fin 9) : Result Byte :=
  if s.hasGood then .next s.good[i] else .fault .goodUnwritten

end Sys2Proof.Machine
end

