-- ==== Sys2Proof/Machine/Converter.lean ====
section
/-! DEFINITION. The nibble-to-decimal converter (41_converter.md R143 to R145). -/

namespace Sys2Proof.Machine

/-- `mag`, 15 bits unsigned; a digit nibble above 9 is used as it is (R143, R144). -/
def mag (g : Frame) : BitVec 15 :=
  (digit1 g).setWidth 15 * 1000 + (digit2 g).setWidth 15 * 100
    + (digit3 g).setWidth 15 * 10 + (digit4 g).setWidth 15

/-- `value`, 16 bits two's complement (R145, with `-v` of R11). -/
def value (g : Frame) : BitVec 16 :=
  if neg g then -((mag g).setWidth 16) else (mag g).setWidth 16

end Sys2Proof.Machine
end

