-- ==== Sys2Proof/Machine/LookupRom.lean ====
section
/-! DEFINITION. Function ids, the range ROM, the unit table and the mode output (42_lookup_rom.md),
with the output codes of 30_encoding.md R91 to R93. -/

namespace Sys2Proof.Machine

/-- The unit prefixes (R91). -/
inductive Prefix where
  | none
  | micro
  | milli
  | kilo
  | mega
  | nano
  deriving DecidableEq, Repr

/-- The 3-bit code of a prefix (R91). -/
def Prefix.code : Prefix → BitVec 3
  | .none => 0
  | .micro => 1
  | .milli => 2
  | .kilo => 3
  | .mega => 4
  | .nano => 5

/-- The units (R92). -/
inductive UnitName where
  | none
  | v
  | a
  | ohm
  | hz
  | rpm
  | f
  | degC
  | degF
  deriving DecidableEq, Repr

/-- The 4-bit code of a unit (R92). -/
def UnitName.code : UnitName → BitVec 4
  | .none => 0
  | .v => 1
  | .a => 2
  | .ohm => 3
  | .hz => 4
  | .rpm => 5
  | .f => 6
  | .degC => 7
  | .degF => 8

/-- The number of a known function (R160). -/
def funcNumber : Func → BitVec 4
  | .voltage => 0
  | .currentUa => 1
  | .currentMa => 2
  | .currentA => 3
  | .ohms => 4
  | .continuity => 5
  | .diode => 6
  | .freqRpm => 7
  | .capacitance => 8
  | .temperature => 9
  | .adp0 => 10
  | .adp1 => 11
  | .adp2 => 12
  | .adp3 => 13

/-- `fid` (R161); 14 is unused (R160). -/
def fidCode : FuncId → BitVec 4
  | .known f => funcNumber f
  | .unrecognized => 15

/-- `func_known` (R161). -/
def funcKnown : FuncId → Bool
  | .known _ => true
  | .unrecognized => false

/-- `mode_id` (R171). -/
def modeId (fid : FuncId) : BitVec 4 := fidCode fid

/-- `tsel`, the row of the range ROM (R163). -/
def tsel (fid : FuncId) (judge : Bool) : BitVec 4 :=
  if fidCode fid = 7 ∧ judge = true then 14 else fidCode fid

/-- The prefix of the two entries of the CURRENT_UA row (R165, R167). -/
def microAmpPrefix (p : Params) : Prefix := if p.currentPrefixSwap then .milli else .micro

/-- The prefix of the two entries of the CURRENT_MA row (R165, R167). -/
def milliAmpPrefix (p : Params) : Prefix := if p.currentPrefixSwap then .micro else .milli

/-- The entries of a ROM row that the source lists, nibble 0 first: decimal places and prefix (R165).
Rows 3, 5, 6 and 9 are fixed rows; the parameters enter as R167 says. -/
def romRow (p : Params) (row : BitVec 4) : List (Nat × Prefix) :=
  match row.toNat with
  | 0 => [(1, .milli), (3, .none), (2, .none), (1, .none), (0, .none)]
  | 1 => [(1, microAmpPrefix p), (0, microAmpPrefix p)]
  | 2 => [(2, milliAmpPrefix p), (1, milliAmpPrefix p)]
  | 3 => List.replicate 16 (p.ampDp.places, .none)
  | 4 => [(1, .none), (3, .kilo), (2, .kilo), (1, .kilo), (3, .mega), (2, .mega)]
  | 5 => List.replicate 16 (1, .none)
  | 6 => List.replicate 16 (p.diodeDp.places, .none)
  | 7 => [(3, .kilo), (2, .kilo), (1, .kilo), (3, .mega), (2, .mega), (1, .mega)]
  | 8 => [(3, .nano), (2, .nano), (1, .nano), (3, .micro), (2, .micro), (1, .micro),
          (3, .milli), (2, .milli)]
  | 9 => List.replicate 16 (0, .none)
  | 14 => [(2, .kilo), (1, .kilo), (3, .mega), (2, .mega), (1, .mega), (0, .mega)]
  | _ => []

/-- A ROM entry `{dp[1:0], prefix[2:0]}` (R64). -/
def romEntry (e : Nat × Prefix) : BitVec 5 := BitVec.ofNat 2 e.1 ++ e.2.code

/-- `ROM(a)` with `a = {tsel, rng}` (R64, R164). An entry the source does not list is 0 places and no
prefix (R168). -/
def rom (p : Params) (a : BitVec 8) : BitVec 5 :=
  romEntry ((romRow p (a.extractLsb' 4 4)).getD (a.extractLsb' 0 4).toNat (0, .none))

/-- The ROM address of a frame's reading (R164). -/
def romAddress (fid : FuncId) (g : Frame) : BitVec 8 := tsel fid (judge g) ++ rng g

/-- The clamp to 0..3 (R166). -/
def clampPlaces (n : Nat) : Nat := min 3 (max 0 n)

/-- `dp` (R166). -/
def dp (p : Params) (fid : FuncId) (g : Frame) : BitVec 2 :=
  BitVec.ofNat 2 (clampPlaces ((rom p (romAddress fid g)).extractLsb' 3 2).toNat)

/-- `prefix` (R166). -/
def prefixCode (p : Params) (fid : FuncId) (g : Frame) : BitVec 3 :=
  (rom p (romAddress fid g)).extractLsb' 0 3

/-- `UNIT(fid, judge)` (R169). -/
def unitName (fid : FuncId) (judge : Bool) : UnitName :=
  match fid with
  | .known .voltage => .v
  | .known .currentUa => .a
  | .known .currentMa => .a
  | .known .currentA => .a
  | .known .ohms => .ohm
  | .known .continuity => .ohm
  | .known .diode => .v
  | .known .freqRpm => if judge then .rpm else .hz
  | .known .capacitance => .f
  | .known .temperature => if judge then .degC else .degF
  | .known .adp0 => .none
  | .known .adp1 => .none
  | .known .adp2 => .none
  | .known .adp3 => .none
  | .unrecognized => .none

/-- `unit` (R169). -/
def unitCode (fid : FuncId) (g : Frame) : BitVec 4 := (unitName fid (judge g)).code

end Sys2Proof.Machine
end

