-- ==== Sys2Proof/Machine/Ops.lean ====
section
/-! DEFINITION. The shared operations on the registers: storing a payload byte, promotion, the end of
a cycle with its classification (the core's only "exception entry", 60_exceptions.md R211; there is
no return, R212), the input stream, and the check of a parameter set. -/

namespace Sys2Proof.Machine

/-- The reset values of R40; `acc` and `good` are not written (R110). -/
def State.clear (s : State) : State :=
  { s with cnt := 0, hasGood := false, frameDone := false, frameStatus := .none,
           lastCount := 0, dispState := .noData }

/-- `frame_done <- 0` and nothing else (R111). -/
def State.endPulse (s : State) : State := { s with frameDone := false }

/-- `acc[cnt] <- b` when `cnt < 9`; later positions are counted, not stored (R61, R114). -/
def State.storeByte (b : Byte) (s : State) : State :=
  if h : s.cnt.toNat < 9 then { s with acc := s.acc.set s.cnt.toNat b h } else s

/-- One more payload byte counted, no completion (R114). -/
def State.advance (s : State) : State := { s with cnt := s.cnt + 1, frameDone := false }

/-- `promote()` (R116): all nine bytes at one edge. -/
def State.promote (s : State) : State := { s with good := s.acc, hasGood := true }

/-- How a cycle ends (R115): a transport error, or by its length. -/
inductive CycleEnd where
  | comms
  | len
  deriving DecidableEq, Repr

/-- The classification of a cycle of `n` payload bytes (R115). -/
def classify (kind : CycleEnd) (n : Nat) : FrameStatus :=
  match kind with
  | .comms => .commsError
  | .len => if n = payloadLength then .valid else .framingError

/-- `next_disp` (R117), from the status just found and `has_good` before the completion. -/
def nextDisp (status : FrameStatus) (hasGood : Bool) (old : DispState) : DispState :=
  match status with
  | .commsError => .noConn
  | .valid => .fresh
  | .framingError => if hasGood then .stale else .noData
  | .none => old

/-- The status registers at a completion (R115). -/
def State.endCycle (status : FrameStatus) (disp : DispState) (n : Nat) (s : State) : State :=
  { s with frameStatus := status, dispState := disp, lastCount := BitVec.ofNat 8 n,
           cnt := 0, frameDone := true }

/-- `complete(kind, n)` (R115). Every right-hand side reads the registers as they were before the
edge (R12): the display transition sees the `has_good` before a promotion. -/
def State.complete (kind : CycleEnd) (n : Nat) (s : State) : State :=
  let status := classify kind n
  let kept := if status = .valid then s.promote else s
  kept.endCycle status (nextDisp status s.hasGood s.dispState) n

/-- A consumer has read the decoded output ports; no register changes (R71; log 5). -/
def State.observe (r : Reading) (s : State) : State := { s with seen := some r }

/-- The input stream without its first entry. -/
def State.takeInput (s : State) : State := { s with inputs := s.inputs.tail }

/-- The operation of this step and the state it starts from. With no input left the lines are
quiet, which is the EV word 0 (log 4). -/
def State.fetch (s : State) : Instr × State :=
  match s.inputs with
  | [] => (decodeEv 0, s)
  | .clock w :: _ => (decodeEv w, s.takeInput)
  | .observe :: _ => (decodeFc s.params.codes (functionCode s.good), s.takeInput)

/-- The state whose next step runs this word: an EV word comes in at the next clock; an FC byte is
byte 5 of the last good frame, whose decoded outputs are read next (log 9). -/
def State.placeCode (s : State) : Code → State
  | .ev w => { s with inputs := .clock w :: s.inputs }
  | .fc b => { s with good := s.good.set 5 b, hasGood := true, inputs := .observe :: s.inputs }

/-- Elaboration: a parameter set that R6 or R7 forbids is refused (R246, I12; log 15). -/
def elaborateParams (r : RawParams) : Result Params :=
  if codesOk : r.openCodes.wf = true then
    if lenOk : 10 ≤ r.maxLen ∧ r.maxLen ≤ 255 then
      .next { codes := ⟨r.openCodes, codesOk⟩, maxLen := r.maxLen, maxLenRange := lenOk,
              diodeDp := r.diodeDp, ampDp := r.ampDp,
              currentPrefixSwap := r.currentPrefixSwap, timeoutEndsFrame := r.timeoutEndsFrame }
    else .refused .illFormedParams
  else .refused .illFormedParams

end Sys2Proof.Machine
end

