-- ==== Sys2Proof/Machine/Function.lean ====
section
/-! DEFINITION. The decoded outputs (10_state.md R23) and the fifteen function-code rows: each is one
read of the decoded outputs of the last good frame, with that row's function (42_lookup_rom.md R160
to R173; log 5 and 19). -/

namespace Sys2Proof.Machine

/-- The decoded output ports of a frame whose function is `fid` (R23). -/
def reading (p : Params) (fid : FuncId) (g : Frame) : Reading where
  rng := rng g
  digit1 := digit1 g
  digit2 := digit2 g
  digit3 := digit3 g
  digit4 := digit4 g
  overload := overload g
  lowbat := lowbat g
  neg := neg g
  judge := judge g
  mag := mag g
  value := value g
  opt1 := opt1 g
  opt2 := opt2 g
  fid := fidCode fid
  funcKnown := funcKnown fid
  modeId := modeId fid
  dp := dp p fid g
  prefixCode := prefixCode p fid g
  unitCode := unitCode fid g

/-- The source's `decode(frame)`: a pure function of the frame and the parameters (R71, R149). -/
def decodeFrame (p : Params) (g : Frame) : Reading :=
  reading p (decodeFuncId p.codes (functionCode g)) g

/-- The decoded output ports of a state, unwritten while `has_good = 0` (R23, R41; log 7). -/
def State.decodedOutputs (s : State) : Result Reading :=
  if s.hasGood then .next (decodeFrame s.params s.good) else .fault .goodUnwritten

/-- One read of the decoded outputs under a function row. -/
def State.readAs (fid : FuncId) (s : State) : Result State :=
  if s.hasGood then .next (s.observe (reading s.params fid s.good)) else .fault .goodUnwritten

/-- FC_VOLTAGE. -/
def execFcVoltage (s : State) : Result State := s.readAs (.known .voltage)

/-- FC_CURRENT_UA. -/
def execFcCurrentUa (s : State) : Result State := s.readAs (.known .currentUa)

/-- FC_CURRENT_MA. -/
def execFcCurrentMa (s : State) : Result State := s.readAs (.known .currentMa)

/-- FC_CURRENT_A. -/
def execFcCurrentA (s : State) : Result State := s.readAs (.known .currentA)

/-- FC_OHMS. -/
def execFcOhms (s : State) : Result State := s.readAs (.known .ohms)

/-- FC_CONTINUITY. -/
def execFcContinuity (s : State) : Result State := s.readAs (.known .continuity)

/-- FC_DIODE. -/
def execFcDiode (s : State) : Result State := s.readAs (.known .diode)

/-- FC_FREQ_RPM. -/
def execFcFreqRpm (s : State) : Result State := s.readAs (.known .freqRpm)

/-- FC_CAPACITANCE. -/
def execFcCapacitance (s : State) : Result State := s.readAs (.known .capacitance)

/-- FC_TEMPERATURE. -/
def execFcTemperature (s : State) : Result State := s.readAs (.known .temperature)

/-- FC_ADP0. -/
def execFcAdp0 (s : State) : Result State := s.readAs (.known .adp0)

/-- FC_ADP1. -/
def execFcAdp1 (s : State) : Result State := s.readAs (.known .adp1)

/-- FC_ADP2. -/
def execFcAdp2 (s : State) : Result State := s.readAs (.known .adp2)

/-- FC_ADP3. -/
def execFcAdp3 (s : State) : Result State := s.readAs (.known .adp3)

/-- FC_UNRECOGNIZED (R162): every byte that equals no entry reads alike; the byte itself stays in
`good[5]` (R200). -/
def execFcUnrecognized (_code : Byte) (s : State) : Result State := s.readAs .unrecognized

end Sys2Proof.Machine
end

