-- ==== Sys2Proof/Machine/Synchronizer.lean ====
section
/-! DEFINITION. The six events of the frame synchronizer (40_synchronizer.md R110 to R114 and R118). -/

namespace Sys2Proof.Machine

/-- RESET (R110). -/
def execReset (s : State) : Result State := .next s.clear

/-- COMMS_ERROR (R112). -/
def execCommsError (s : State) : Result State := .next (s.complete .comms s.cnt.toNat)

/-- TERM (R118). -/
def execTerm (s : State) : Result State := .next (s.complete .len s.cnt.toNat)

/-- DATA(b) (R114). The count is compared as an integer (R11); `MAX_LEN` is at least 10, so the
overflow never promotes and the order of the store and the completion does not matter. -/
def execData (b : Byte) (s : State) : Result State :=
  if s.cnt.toNat + 1 = s.params.maxLen then
    .next ((s.storeByte b).complete .len s.params.maxLen)
  else .next (s.storeByte b).advance

/-- TIMEOUT (R113). -/
def execTimeout (s : State) : Result State :=
  if s.params.timeoutEndsFrame then .next (s.complete .len s.cnt.toNat) else .next s.endPulse

/-- IDLE (R111). -/
def execIdle (s : State) : Result State := .next s.endPulse

end Sys2Proof.Machine
end

