-- ==== Sys2Proof/Machine/Dispatch.lean ====
section
/-! DEFINITION. One arm per operation, each one call of its meaning. -/

namespace Sys2Proof.Machine

def exec (i : Instr) (s : State) : Host.Outcome State Fault Refusal :=
  match i with
  | .reset => Sys2Proof.Machine.execReset s
  | .commsError => Sys2Proof.Machine.execCommsError s
  | .term => Sys2Proof.Machine.execTerm s
  | .data b => Sys2Proof.Machine.execData b s
  | .timeout => Sys2Proof.Machine.execTimeout s
  | .idle => Sys2Proof.Machine.execIdle s
  | .fcVoltage => Sys2Proof.Machine.execFcVoltage s
  | .fcCurrentUa => Sys2Proof.Machine.execFcCurrentUa s
  | .fcCurrentMa => Sys2Proof.Machine.execFcCurrentMa s
  | .fcCurrentA => Sys2Proof.Machine.execFcCurrentA s
  | .fcOhms => Sys2Proof.Machine.execFcOhms s
  | .fcContinuity => Sys2Proof.Machine.execFcContinuity s
  | .fcDiode => Sys2Proof.Machine.execFcDiode s
  | .fcFreqRpm => Sys2Proof.Machine.execFcFreqRpm s
  | .fcCapacitance => Sys2Proof.Machine.execFcCapacitance s
  | .fcTemperature => Sys2Proof.Machine.execFcTemperature s
  | .fcAdp0 => Sys2Proof.Machine.execFcAdp0 s
  | .fcAdp1 => Sys2Proof.Machine.execFcAdp1 s
  | .fcAdp2 => Sys2Proof.Machine.execFcAdp2 s
  | .fcAdp3 => Sys2Proof.Machine.execFcAdp3 s
  | .fcUnrecognized code => Sys2Proof.Machine.execFcUnrecognized code s

end Sys2Proof.Machine
end

