-- ==== Sys2Proof/Machine/Step.lean ====
section
/-! DEFINITION. One step: the environment's next input, decoded and executed. -/

namespace Sys2Proof.Machine

/-- Take the next input, decode it and run it: one clock edge for an EV word (10_state.md R20), no
clock at all for a read of the decoded outputs (20_memory.md R71). -/
def step (s : State) : Host.Outcome State Fault Refusal := exec s.fetch.1 s.fetch.2

/-- `s` with a table row's word where the next step takes it from; bits that are no word of either
format change nothing (log 8, 9). -/
def State.withFetchWord (s : State) (nbits w : Nat) : State :=
  match Code.ofTable nbits w with
  | .ok code => s.placeCode code
  | .error _ => s

end Sys2Proof.Machine
end

