-- ==== Sys2Proof/Machine/Formatter.lean ====
section
/-! DEFINITION. The reference formatter, an observation outside the block (43_formatter.md). Text is
a list of characters; `utf8` gives its bytes (log 13). -/

namespace Sys2Proof.Machine

/-- The prefix a code stands for; 6 and 7 are reserved (R91). -/
def prefixOfCode (c : BitVec 3) : Option Prefix :=
  match c.toNat with
  | 0 => some .none
  | 1 => some .micro
  | 2 => some .milli
  | 3 => some .kilo
  | 4 => some .mega
  | 5 => some .nano
  | _ => none

/-- The unit a code stands for; 9 to 15 are reserved (R92). -/
def unitOfCode (c : BitVec 4) : Option UnitName :=
  match c.toNat with
  | 0 => some .none
  | 1 => some .v
  | 2 => some .a
  | 3 => some .ohm
  | 4 => some .hz
  | 5 => some .rpm
  | 6 => some .f
  | 7 => some .degC
  | 8 => some .degF
  | _ => none

/-- The text of a prefix (R91); µ is U+00B5 (R196). -/
def Prefix.text : Prefix → List Char
  | .none => []
  | .micro => ['\u00b5']
  | .milli => ['m']
  | .kilo => ['k']
  | .mega => ['M']
  | .nano => ['n']

/-- The text of a unit (R92); Ω is U+03A9 and ° is U+00B0 (R196). -/
def UnitName.text : UnitName → List Char
  | .none => []
  | .v => ['V']
  | .a => ['A']
  | .ohm => ['\u03a9']
  | .hz => ['H', 'z']
  | .rpm => ['r', 'p', 'm']
  | .f => ['F']
  | .degC => ['\u00b0', 'C']
  | .degF => ['\u00b0', 'F']

/-- The character of a decimal digit. -/
def digitChar (d : Nat) : Char := Char.ofNat (0x30 + d)

/-- The decimal digits of `n` without leading zeros, given at least as much fuel as digits. -/
def decDigits : Nat → Nat → List Char
  | 0, _ => []
  | fuel + 1, n =>
    if n < 10 then [digitChar n] else decDigits fuel (n / 10) ++ [digitChar (n % 10)]

/-- `dec(n)`: "0" when `n = 0` (R193). -/
def dec (n : Nat) : List Char := decDigits (n + 1) n

/-- `dec_padded(n, k)`: exactly `k` digits, leading zeros kept (R193). -/
def decPadded : Nat → Nat → List Char
  | _, 0 => []
  | n, k + 1 => decPadded (n / 10) k ++ [digitChar (n % 10)]

/-- The number `m / 10^places`, exactly (R193). -/
def numberText (m places : Nat) : List Char :=
  if places = 0 then dec m
  else dec (m / 10 ^ places) ++ ['.'] ++ decPadded (m % 10 ^ places) places

/-- The sign character: `value` read as a signed number (R192). -/
def signChar (r : Reading) : Char := if r.value.toInt < 0 then '-' else '+'

/-- `Format` (R190 to R194). A reserved prefix or unit code is refused (I17; log 12). -/
def format (r : Reading) : Result (List Char) :=
  if r.overload then .next ['O', '.', 'L', '.']
  else
    match prefixOfCode r.prefixCode, unitOfCode r.unitCode with
    | some p, some u => .next (signChar r :: numberText r.mag.toNat r.dp.toNat ++ p.text ++ u.text)
    | _, _ => .refused .reservedOutputCode

/-- The UTF-8 bytes of a character (R196). -/
def utf8Char (c : Char) : List Byte :=
  let n := c.toNat
  let tail (k : Nat) : Byte := BitVec.ofNat 8 (0x80 + n / 64 ^ k % 64)
  if n < 0x80 then [BitVec.ofNat 8 n]
  else if n < 0x800 then [BitVec.ofNat 8 (0xC0 + n / 64), tail 0]
  else if n < 0x10000 then [BitVec.ofNat 8 (0xE0 + n / 64 ^ 2), tail 1, tail 0]
  else [BitVec.ofNat 8 (0xF0 + n / 64 ^ 3), tail 2, tail 1, tail 0]

/-- The UTF-8 bytes of a text (R196). -/
def utf8 (text : List Char) : List Byte := text.flatMap utf8Char

/-- What a display driven by the core shows (R197; log 14). -/
inductive Display where
  /-- The "no data" state, whose text no source gives. -/
  | noData
  /-- The "no connection" state, whose text no source gives. -/
  | noConn
  /-- The formatted reading of the last good frame. -/
  | text (t : List Char)
  deriving DecidableEq, Repr

/-- The display of a state (R197): `Format` is applied in FRESH and in STALE only. -/
def State.display (s : State) : Result Display :=
  match s.dispState with
  | .noData => .next .noData
  | .noConn => .next .noConn
  | .fresh | .stale =>
    match s.decodedOutputs with
    | .next r =>
      match format r with
      | .next t => .next (.text t)
      | .fault e => .fault e
      | .refused e => .refused e
    | .fault e => .fault e
    | .refused e => .refused e

end Sys2Proof.Machine
end

