-- ==== Sys2Proof/Machine/ReadFrame.lean ====
section
/-! DEFINITION. The source's frame reader, as 40_synchronizer.md quotes it, for the comparison of R119
(log 17), and the machine's clocks and completions over a list of EV words. -/

namespace Sys2Proof.Machine

/-- What one read of the transport gives the software reader. -/
inductive LineItem where
  | byte (b : Byte)
  /-- "A read error from the transport (not timeout)". -/
  | readError
  /-- "Zero bytes read this tick": a timeout, or nothing. -/
  | nothing
  deriving DecidableEq, Repr

/-- What the transport delivers in the clock of an operation; only the events concern the line. -/
def lineItem : Instr → LineItem
  | .data b => .byte b
  | .term => .byte terminator
  | .commsError => .readError
  | .reset | .timeout | .idle => .nothing
  | .fcVoltage | .fcCurrentUa | .fcCurrentMa | .fcCurrentA | .fcOhms | .fcContinuity | .fcDiode
  | .fcFreqRpm | .fcCapacitance | .fcTemperature | .fcAdp0 | .fcAdp1 | .fcAdp2 | .fcAdp3 => .nothing
  | .fcUnrecognized _ => .nothing

/-- What one call of `read_frame` returns: its classification, the bytes it read, the line after it. -/
structure FrameRead where
  status : FrameStatus
  bytes : List Byte
  rest : List LineItem
  deriving DecidableEq, Repr

/-- "`byte_count == 9` ... is the sole acceptance criterion" (R5, R115). -/
def lengthStatus (n : Nat) : FrameStatus := if n = 9 then .valid else .framingError

/-- `read_frame(transport, max_len)`, with the bytes already read in this call; `none` while the read
blocks (R122). -/
def readFrame (maxLen : Nat) : List LineItem → List Byte → Option FrameRead
  | [], _ => none
  | .nothing :: rest, got => readFrame maxLen rest got
  | .readError :: rest, got => some ⟨.commsError, got, rest⟩
  | .byte b :: rest, got =>
    if b = terminator then some ⟨lengthStatus got.length, got, rest⟩
    else if got.length + 1 = maxLen then
      some ⟨lengthStatus (got.length + 1), got ++ [b], rest⟩
    else readFrame maxLen rest (got ++ [b])

/-- Successive calls, at most `calls` of them: for each, the byte count, the classification and the
"last good frame" cell after it. -/
def readFrames (maxLen : Nat) :
    (calls : Nat) → List LineItem → Option (List Byte) → List (Nat × FrameStatus × Option (List Byte))
  | 0, _, _ => []
  | calls + 1, line, good =>
    match readFrame maxLen line [] with
    | none => []
    | some r =>
      let good' := if r.status = .valid then some r.bytes else good
      (r.bytes.length, r.status, good') :: readFrames maxLen calls r.rest good'

/-- The clocks of a list of EV words, one after the other. -/
def clocks : List EvWord → State → Result State
  | [], s => .next s
  | w :: ws, s =>
    match exec (decodeEv w) s with
    | .next t => clocks ws t
    | .fault e => .fault e
    | .refused e => .refused e

/-- `good` as the "last good frame" cell: empty until a valid cycle (R28). -/
def State.goodCell (s : State) : Option (List Byte) :=
  match s.hasGood with
  | true => some s.good.toList
  | false => none

/-- `last_count`, `frame_status` and the last good frame at each `frame_done` pulse of a run. -/
def completions : List EvWord → State → List (Nat × FrameStatus × Option (List Byte))
  | [], _ => []
  | w :: ws, s =>
    match exec (decodeEv w) s with
    | .next t =>
      let here := if t.frameDone then [(t.lastCount.toNat, t.frameStatus, t.goodCell)] else []
      here ++ completions ws t
    | .fault _ => []
    | .refused _ => []

end Sys2Proof.Machine
end

