-- ==== Sys2Proof/Machine/Script.lean ====
section
/-! DEFINITION. The event-script notation of 30_encoding.md R97 and R98 and its expansion to EV words. -/

namespace Sys2Proof.Machine

/-- One line of a script (R97, R98). -/
inductive ScriptLine where
  | rst
  | b (h : Byte)
  | nl
  | err
  | tmo
  | idle
  | ev (w : EvWord)
  | frame (h : Frame)
  | short (hs : List Byte)
  | idles (n : Nat)
  deriving DecidableEq, Repr

/-- `B hh`: V = 1 and D = 0xhh (R97). -/
def byteWord (h : Byte) : EvWord := 0b0010#4 ++ h

/-- The clocks of a line, first clock first (R97, R98; log 18). -/
def ScriptLine.clocks : ScriptLine → List EvWord
  | .rst => [0x800]
  | .b h => [byteWord h]
  | .nl => [byteWord 0x0A]
  | .err => [0x400]
  | .tmo => [0x100]
  | .idle => [0x000]
  | .ev w => [w]
  | .frame h => h.toList.map byteWord ++ [byteWord 0x0A]
  | .short hs => hs.map byteWord ++ [byteWord 0x0A]
  | .idles n => List.replicate n 0x000

/-- The clocks of a script. -/
def scriptClocks (lines : List ScriptLine) : List EvWord := lines.flatMap ScriptLine.clocks

end Sys2Proof.Machine
end

