-- ==== Sys2Proof/Safety.lean ====
section
/-! DEFINITION. The terms the statements use: the invariant of 10_state.md R39, what the ports may
show, when two states cannot be told apart, and the two kinds of operation. -/

namespace Sys2Proof

/-- The six events (format EV). -/
def Instr.isEvent : Instr → Bool
  | .reset | .commsError | .term | .data _ | .timeout | .idle => true
  | .fcVoltage | .fcCurrentUa | .fcCurrentMa | .fcCurrentA | .fcOhms | .fcContinuity | .fcDiode
  | .fcFreqRpm | .fcCapacitance | .fcTemperature | .fcAdp0 | .fcAdp1 | .fcAdp2 | .fcAdp3
  | .fcUnrecognized _ => false

/-- The function id of a function-code row; none for an event. -/
def Instr.funcId? : Instr → Option FuncId
  | .reset | .commsError | .term | .data _ | .timeout | .idle => none
  | .fcVoltage => some (.known .voltage)
  | .fcCurrentUa => some (.known .currentUa)
  | .fcCurrentMa => some (.known .currentMa)
  | .fcCurrentA => some (.known .currentA)
  | .fcOhms => some (.known .ohms)
  | .fcContinuity => some (.known .continuity)
  | .fcDiode => some (.known .diode)
  | .fcFreqRpm => some (.known .freqRpm)
  | .fcCapacitance => some (.known .capacitance)
  | .fcTemperature => some (.known .temperature)
  | .fcAdp0 => some (.known .adp0)
  | .fcAdp1 => some (.known .adp1)
  | .fcAdp2 => some (.known .adp2)
  | .fcAdp3 => some (.known .adp3)
  | .fcUnrecognized _ => some .unrecognized

namespace Machine

/-- The invariant of R39, (a) to (f). -/
structure State.Inv (s : State) : Prop where
  cntBelowMaxLen : s.cnt.toNat ≤ s.params.maxLen - 1
  shownHasGood : s.dispState = .fresh ∨ s.dispState = .stale → s.hasGood = true
  noGoodNotShown : s.hasGood = false → s.dispState = .noData ∨ s.dispState = .noConn
  doneHasStatus : s.frameDone = true → s.frameStatus ≠ .none
  validCount : s.frameStatus = .valid → s.hasGood = true ∧ s.lastCount = 9
  framingCount : s.frameStatus = .framingError → s.lastCount ≠ 9

/-- No reserved code on a port (R91, R92, R160, I17), and the bounds of R143, R145 and R166. -/
structure Reading.InRange (r : Reading) : Prop where
  fidUsed : r.fid ≠ 14
  modeIsFid : r.modeId = r.fid
  knownIffNotFifteen : r.funcKnown = true ↔ r.fid ≠ 15
  prefixUsed : r.prefixCode.toNat ≤ 5
  unitUsed : r.unitCode.toNat ≤ 8
  magBound : r.mag.toNat ≤ 16665
  valueBound : r.value.toInt.natAbs = r.mag.toNat

/-- Every reading a consumer holds is in range. -/
def State.SeenInRange (s : State) : Prop := ∀ r, s.seen = some r → r.InRange

/-- Two states that differ at most in bytes no rule reads: `acc[i]` for `i >= cnt`, and `good` while
`has_good = 0` (R26, R41, R206). -/
structure Indistinguishable (s t : State) : Prop where
  params : s.params = t.params
  cnt : s.cnt = t.cnt
  acc : ∀ (i : Nat) (h : i < 9), i < s.cnt.toNat → s.acc[i] = t.acc[i]
  good : s.hasGood = true → s.good = t.good
  hasGood : s.hasGood = t.hasGood
  frameDone : s.frameDone = t.frameDone
  frameStatus : s.frameStatus = t.frameStatus
  lastCount : s.lastCount = t.lastCount
  dispState : s.dispState = t.dispState
  inputs : s.inputs = t.inputs
  seen : s.seen = t.seen

/-- Two outcomes of a step that cannot be told apart: indistinguishable next states, or the same stop. -/
def SameOutcome : Result State → Result State → Prop
  | .next s, .next t => Indistinguishable s t
  | .fault a, .fault b => a = b
  | .refused a, .refused b => a = b
  | .next _, .fault _ | .next _, .refused _ | .fault _, .next _ | .fault _, .refused _
  | .refused _, .next _ | .refused _, .fault _ => False

/-- What a function-code row reads from any written frame: its `fid` and `func_known`, its `mode_id`,
its column of a ROM row (`(dp, prefix)` by range nibble, 0 places and no prefix where the row lists
none) and its unit. The row and the unit may depend on the parameters and on Judge. `seen` apart,
nothing changes. -/
def ReadsFunction (i : Instr) (fid : Nat) (known : Bool)
    (row : Params → (judge : Bool) → List (Nat × Nat)) (unit : (judge : Bool) → Nat) : Prop :=
  ∀ s : State, s.hasGood = true →
    ∃ r : Reading, exec i s = .next { s with seen := some r } ∧
      r.fid.toNat = fid ∧ r.funcKnown = known ∧ r.modeId.toNat = fid ∧
      (r.dp.toNat, r.prefixCode.toNat) =
        (row s.params (s.good[6].toNat.testBit 3)).getD (s.good[0].toNat % 16) (0, 0) ∧
      r.unitCode.toNat = unit (s.good[6].toNat.testBit 3)

/-- The range ROM as R165 writes it in 5-bit words, address 0 first. -/
def romWords : List Nat :=
  [0x0A, 0x18, 0x10, 0x08, 0, 0, 0, 0, 0, 0, 0, 0, 0, 0, 0, 0]
  ++ [0x09, 0x01, 0, 0, 0, 0, 0, 0, 0, 0, 0, 0, 0, 0, 0, 0]
  ++ [0x12, 0x0A, 0, 0, 0, 0, 0, 0, 0, 0, 0, 0, 0, 0, 0, 0]
  ++ List.replicate 16 0x10
  ++ [0x08, 0x1B, 0x13, 0x0B, 0x1C, 0x14, 0, 0, 0, 0, 0, 0, 0, 0, 0, 0]
  ++ List.replicate 16 0x08
  ++ List.replicate 16 0x18
  ++ [0x1B, 0x13, 0x0B, 0x1C, 0x14, 0x0C, 0, 0, 0, 0, 0, 0, 0, 0, 0, 0]
  ++ [0x1D, 0x15, 0x0D, 0x19, 0x11, 0x09, 0x1A, 0x12, 0, 0, 0, 0, 0, 0, 0, 0]
  ++ List.replicate 80 0x00
  ++ [0x13, 0x0B, 0x1C, 0x14, 0x0C, 0x04, 0, 0, 0, 0, 0, 0, 0, 0, 0, 0]
  ++ List.replicate 16 0x00

/-- The number a text of decimal digits stands for; other characters are skipped. -/
def digitsValue (text : List Char) : Nat :=
  (text.filter Char.isDigit).foldl (fun n c => 10 * n + (c.toNat - 0x30)) 0

end Machine

end Sys2Proof
end

