-- ==== Sys2Proof/Certificates/Slice0/Obligations.lean ====
section
/-! DEFINITION. The statements about the model, for the provers. -/

open Sys2Proof Sys2Proof.Machine

/-! ### Encoding -/

/-- R90: each of the six patterns of an EV word makes the next step run its event. -/
def Obligations.EventPatternsSelectTheirEvent : Prop :=
  ∀ (s : State) (w : EvWord) (rest : List Input), s.inputs = .clock w :: rest →
    (w &&& 0x800 = 0x800 → step s = exec .reset { s with inputs := rest }) ∧
    (w &&& 0xC00 = 0x400 → step s = exec .commsError { s with inputs := rest }) ∧
    (w &&& 0xEFF = 0x20A → step s = exec .term { s with inputs := rest }) ∧
    (w &&& 0xE00 = 0x200 ∧ w.extractLsb' 0 8 ≠ 0x0A →
      step s = exec (.data (w.extractLsb' 0 8)) { s with inputs := rest }) ∧
    (w &&& 0xF00 = 0x100 → step s = exec .timeout { s with inputs := rest }) ∧
    (w &&& 0xF00 = 0x000 → step s = exec .idle { s with inputs := rest })

/-- Decoding the encoding of a well-formed operation gives it back, for every operation, every
operand and every function-code table. -/
def Obligations.DecodingInvertsEncoding : Prop :=
  ∀ (c : FuncCodes) (i : Instr), i.wf c = true → decode c (encode c i) = i

/-- Whatever is decoded is well-formed; a function-code byte is encoded back to itself, and an EV
word to a word of the same event. -/
def Obligations.EncodingInvertsDecoding : Prop :=
  ∀ c : FuncCodes,
    (∀ code : Code, (decode c code).wf c = true) ∧
    (∀ b : Byte, encode c (decode c (.fc b)) = .fc b) ∧
    (∀ w : EvWord, ∃ v : EvWord, encode c (decode c (.ev w)) = .ev v ∧ decodeEv v = decodeEv w)

/-- R99: the encodings the spec lists for the lines of a script, and a few decoded words. -/
def Obligations.ScriptLinesHaveTheListedWords : Prop :=
  ScriptLine.clocks (.b 0x31) = [0x231] ∧ decodeEv 0x231 = .data 0x31 ∧
  ScriptLine.clocks .nl = [0x20A] ∧ decodeEv 0x20A = .term ∧
  ScriptLine.clocks .err = [0x400] ∧ decodeEv 0x400 = .commsError ∧
  ScriptLine.clocks (.ev 0x631) = [0x631] ∧ decodeEv 0x631 = .commsError ∧
  ScriptLine.clocks .tmo = [0x100] ∧ decodeEv 0x100 = .timeout ∧
  ScriptLine.clocks .rst = [0x800] ∧ decodeEv 0x800 = .reset ∧
  ∀ c : FuncCodes, decode c (.fc 0x3B) = .fcVoltage

/-! ### The step -/

/-- A step runs the decoded operation of the next input; with no input left it runs IDLE, which is
the model's choice (log 4), and a read of the outputs is the model's own step (log 5). -/
def Obligations.StepRunsTheDecodedOperation : Prop :=
  ∀ s : State,
    (s.inputs = [] → step s = exec .idle s) ∧
    (∀ (w : EvWord) (rest : List Input), s.inputs = .clock w :: rest →
      step s = exec (decodeEv w) { s with inputs := rest }) ∧
    (∀ rest : List Input, s.inputs = .observe :: rest →
      step s = exec (decodeFc s.params.codes s.good[5]) { s with inputs := rest })

/-- The word of any well-formed operation, placed as the next input, is what the next step runs; a
function-code byte is placed as byte 5 of the last good frame (log 9). -/
def Obligations.PlacedWordIsTheNextOperation : Prop :=
  ∀ (s : State) (i : Instr), i.wf s.params.codes = true →
    (i.isEvent = true → step (s.placeCode (encode s.params.codes i)) = exec i s) ∧
    (i.isEvent = false → ∃ b : Byte, encode s.params.codes i = .fc b ∧
      step (s.placeCode (encode s.params.codes i)) =
        exec i { s with good := s.good.set 5 b, hasGood := true })

/-- R161: the decoded outputs name the function whose entry equals byte 5 of the last good frame,
by its place in the table, and Unrecognized when no entry does. -/
def Obligations.FunctionCodeIsFoundInTheTable : Prop :=
  ∀ (s : State) (rest : List Input), s.hasGood = true → s.inputs = .observe :: rest →
    ∃ r : Reading, step s = .next { s with inputs := rest, seen := some r } ∧
      (∀ (k : Nat) (f : Func), Func.all[k]? = some f → s.good[5] = s.params.codes.code f →
        r.fid.toNat = k ∧ r.funcKnown = true) ∧
      ((∀ f : Func, s.good[5] ≠ s.params.codes.code f) →
        r.fid.toNat = 15 ∧ r.funcKnown = false)

/-- R173: a byte 5 with bit 7 or bit 6 set reads as Unrecognized, with the default ROM row and no
unit; there is no mask. -/
def Obligations.HighBitsOfByteFiveAreUnrecognized : Prop :=
  ∀ (s : State) (rest : List Input), s.hasGood = true → s.inputs = .observe :: rest →
    (s.good[5][7] = true ∨ s.good[5][6] = true) →
    ∃ r : Reading, step s = .next { s with inputs := rest, seen := some r } ∧
      r.fid = 15 ∧ r.funcKnown = false ∧ r.modeId = 15 ∧
      r.dp = 0 ∧ r.prefixCode = 0 ∧ r.unitCode = 0

/-- R205: no input and no frame content stops the core. The one step that is no next state is the
read of a frame that has not been written (R41). -/
def Obligations.OnlyAnUnwrittenReadStops : Prop :=
  ∀ s : State,
    (∃ t, step s = .next t) ∨
    (step s = .fault .goodUnwritten ∧ s.hasGood = false ∧
      ∃ rest, s.inputs = .observe :: rest)

/-! ### Reset -/

/-- R110: RESET writes the reset values of R40 and nothing else; `acc` and `good` keep their bytes. -/
def Obligations.ResetWritesItsRegisters : Prop :=
  ∀ s : State, exec .reset s = .next
    { s with cnt := 0, hasGood := false, frameDone := false, frameStatus := .none,
             lastCount := 0, dispState := .noData }

/-- R40: the registers after reset that have a reset value, and that a RESET in the state after
reset changes nothing. -/
def Obligations.StateAfterResetHasTheResetValues : Prop :=
  State.reset.cnt = 0 ∧ State.reset.hasGood = false ∧ State.reset.frameDone = false ∧
  State.reset.frameStatus.code = 0 ∧ State.reset.lastCount = 0 ∧ State.reset.dispState.code = 0 ∧
  exec .reset State.reset = .next State.reset

/-! ### The events -/

/-- R111: IDLE writes `frame_done` only. -/
def Obligations.IdleOnlyEndsThePulse : Prop :=
  ∀ s : State, exec .idle s = .next { s with frameDone := false }

/-- R112: a transport error completes the cycle whatever its count, and keeps `good`. -/
def Obligations.CommsErrorDiscardsTheCycle : Prop :=
  ∀ s : State, exec .commsError s = .next
    { s with frameStatus := .commsError, dispState := .noConn, lastCount := s.cnt,
             cnt := 0, frameDone := true }

/-- R113: a timeout is an IDLE clock, or ends the cycle by its length, as its parameter says. -/
def Obligations.TimeoutFollowsItsParameter : Prop :=
  ∀ s : State,
    (s.params.timeoutEndsFrame = false → exec .timeout s = .next { s with frameDone := false }) ∧
    (s.params.timeoutEndsFrame = true → s.cnt = 9 → exec .timeout s = .next
      { s with good := s.acc, hasGood := true, frameStatus := .valid, dispState := .fresh,
               lastCount := 9, cnt := 0, frameDone := true }) ∧
    (s.params.timeoutEndsFrame = true → s.cnt ≠ 9 → exec .timeout s = .next
      { s with frameStatus := .framingError,
               dispState := if s.hasGood = true then .stale else .noData,
               lastCount := s.cnt, cnt := 0, frameDone := true })

/-- R114: a payload byte is stored at `cnt` when `cnt < 9`, and counted, or ends the cycle as a
framing error when it is the `MAX_LEN`-th. -/
def Obligations.DataStoresAndCounts : Prop :=
  ∀ (s : State) (b : Byte), ∃ acc' : Frame,
    (∀ (i : Nat) (h : i < 9), acc'[i] = if i = s.cnt.toNat then b else s.acc[i]) ∧
    (s.cnt.toNat + 1 ≠ s.params.maxLen → exec (.data b) s = .next
      { s with acc := acc', cnt := s.cnt + 1, frameDone := false }) ∧
    (s.cnt.toNat + 1 = s.params.maxLen → exec (.data b) s = .next
      { s with acc := acc', frameStatus := .framingError,
               dispState := if s.hasGood = true then .stale else .noData,
               lastCount := BitVec.ofNat 8 s.params.maxLen, cnt := 0, frameDone := true })

/-- R118: the terminator ends the cycle; nine bytes are promoted, any other count is a framing
error that keeps `good`. -/
def Obligations.TermAcceptsExactlyNineBytes : Prop :=
  ∀ s : State,
    (s.cnt = 9 → exec .term s = .next
      { s with good := s.acc, hasGood := true, frameStatus := .valid, dispState := .fresh,
               lastCount := 9, cnt := 0, frameDone := true }) ∧
    (s.cnt ≠ 9 → exec .term s = .next
      { s with frameStatus := .framingError,
               dispState := if s.hasGood = true then .stale else .noData,
               lastCount := s.cnt, cnt := 0, frameDone := true })

/-- R117: the display state after a completion, from the status and the `has_good` before it, and
that only a completion and RESET write it. -/
def Obligations.CompletionsDriveTheDisplayState : Prop :=
  ∀ (i : Instr) (s t : State), i.isEvent = true → exec i s = .next t →
    (t.frameDone = true →
      (t.frameStatus = .commsError → t.dispState = .noConn) ∧
      (t.frameStatus = .valid → t.dispState = .fresh) ∧
      (t.frameStatus = .framingError → s.hasGood = true → t.dispState = .stale) ∧
      (t.frameStatus = .framingError → s.hasGood = false → t.dispState = .noData) ∧
      t.frameStatus ≠ .none) ∧
    (t.frameDone = false → i ≠ .reset → t.dispState = s.dispState)

/-- Every completion clears `cnt` and reports the count of the cycle; an event without a completion
keeps the report, RESET apart (R115, R212). -/
def Obligations.CompletionsReportTheCount : Prop :=
  ∀ (i : Instr) (s t : State), i.isEvent = true → exec i s = .next t →
    (t.frameDone = true → t.cnt = 0 ∧
      ((∀ b, i ≠ .data b) → t.lastCount = s.cnt) ∧
      ((∃ b, i = .data b) → t.lastCount.toNat = s.params.maxLen ∧
        s.cnt.toNat + 1 = s.params.maxLen)) ∧
    (t.frameDone = false → i ≠ .reset →
      t.lastCount = s.lastCount ∧ t.frameStatus = s.frameStatus ∧
      ((∀ b, i ≠ .data b) → t.cnt = s.cnt) ∧ ((∃ b, i = .data b) → t.cnt = s.cnt + 1))

/-- R120 with R24, R113 and R116: `good` changes in no other way than by a promotion of nine counted
bytes, at a terminator or at a timeout that ends a frame. R120's "no TIMEOUT event" is read as of a
timeout that ends none (log 22). -/
def Obligations.OnlyPromotionWritesGood : Prop :=
  ∀ (i : Instr) (s t : State), exec i s = .next t → t.good ≠ s.good →
    t.good = s.acc ∧ s.cnt = 9 ∧ t.hasGood = true ∧ t.frameStatus = .valid ∧
      t.lastCount = 9 ∧ t.frameDone = true ∧
      (i = .term ∨ i = .timeout ∧ s.params.timeoutEndsFrame = true)

/-- R61: an entry of `acc` changes only at a DATA event, at position `cnt < 9`, to its byte. -/
def Obligations.OnlyDataWritesAcc : Prop :=
  ∀ (i : Instr) (s t : State) (k : Nat) (h : k < 9), exec i s = .next t →
    (∀ b, i = .data b → t.acc[k] = if k = s.cnt.toNat then b else s.acc[k]) ∧
    ((∀ b, i ≠ .data b) → t.acc[k] = s.acc[k])

/-- R28: `has_good` is set by a valid completion and cleared by RESET, and by nothing else. -/
def Obligations.OnlyResetClearsHasGood : Prop :=
  ∀ (i : Instr) (s t : State), exec i s = .next t →
    (i = .reset → t.hasGood = false) ∧
    (i ≠ .reset → s.hasGood = true → t.hasGood = true) ∧
    (s.hasGood = false → t.hasGood = true →
      i.isEvent = true ∧ t.frameDone = true ∧ t.frameStatus = .valid)

/-- R10: no step changes a parameter. -/
def Obligations.StepsKeepTheParameters : Prop :=
  ∀ s t : State, step s = .next t → t.params = s.params

/-- R202: after a framing error with a good frame held, the core shows the old reading as stale. -/
def Obligations.FramingErrorShowsTheOldReading : Prop :=
  ∀ (i : Instr) (s t : State), i.isEvent = true → exec i s = .next t → t.frameDone = true →
    t.frameStatus = .framingError → s.hasGood = true →
    t.dispState = .stale ∧ t.hasGood = true ∧ t.good = s.good ∧
      t.decodedOutputs = .next (decodeFrame s.params s.good)

/-! ### The function-code rows -/

/-- R71: reading the decoded outputs, under any function-code row, changes no register, no parameter
and no input; it completes when a good frame is held. -/
def Obligations.ReadingChangesNoRegister : Prop :=
  ∀ (i : Instr) (s : State), i.isEvent = false → s.hasGood = true →
    ∃ r : Reading, exec i s = .next { s with seen := some r }

/-- A read of the decoded outputs while `has_good = 0` faults, under every function-code row; that
it faults rather than being refused is the model's choice (log 7). -/
def Obligations.UnwrittenFrameCannotBeRead : Prop :=
  ∀ (i : Instr) (s : State), i.isEvent = false → s.hasGood = false →
    exec i s = .fault .goodUnwritten

/-- FC_VOLTAGE: ROM row 0 of R165, unit V. -/
def Obligations.VoltageReadsRowZero : Prop :=
  ReadsFunction .fcVoltage 0 true (fun _ _ => [(1, 2), (3, 0), (2, 0), (1, 0), (0, 0)]) (fun _ => 1)

/-- FC_CURRENT_UA: ROM row 1, with µ or, swapped, m (R167), unit A. -/
def Obligations.CurrentMicroampReadsRowOne : Prop :=
  ReadsFunction .fcCurrentUa 1 true
    (fun p _ => if p.currentPrefixSwap = true then [(1, 2), (0, 2)] else [(1, 1), (0, 1)])
    (fun _ => 2)

/-- FC_CURRENT_MA: ROM row 2, with m or, swapped, µ (R167), unit A. -/
def Obligations.CurrentMilliampReadsRowTwo : Prop :=
  ReadsFunction .fcCurrentMa 2 true
    (fun p _ => if p.currentPrefixSwap = true then [(2, 1), (1, 1)] else [(2, 2), (1, 2)])
    (fun _ => 2)

/-- FC_CURRENT_A: ROM row 3, fixed, `AMP_DP` places (R167), unit A. -/
def Obligations.CurrentAmpReadsRowThree : Prop :=
  ReadsFunction .fcCurrentA 3 true
    (fun p _ => List.replicate 16 (if p.ampDp = .two then 2 else 0, 0)) (fun _ => 2)

/-- FC_OHMS: ROM row 4, unit OHM. -/
def Obligations.OhmsReadsRowFour : Prop :=
  ReadsFunction .fcOhms 4 true
    (fun _ _ => [(1, 0), (3, 3), (2, 3), (1, 3), (3, 4), (2, 4)]) (fun _ => 3)

/-- FC_CONTINUITY: ROM row 5, fixed, unit OHM (R170). -/
def Obligations.ContinuityReadsRowFive : Prop :=
  ReadsFunction .fcContinuity 5 true (fun _ _ => List.replicate 16 (1, 0)) (fun _ => 3)

/-- FC_DIODE: ROM row 6, fixed, `DIODE_DP` places (R167), unit V (R170). -/
def Obligations.DiodeReadsRowSix : Prop :=
  ReadsFunction .fcDiode 6 true
    (fun p _ => List.replicate 16 (if p.diodeDp = .three then 3 else 1, 0)) (fun _ => 1)

/-- FC_FREQ_RPM: ROM row 7 and unit HZ with Judge clear, row 14 and unit RPM with Judge set. -/
def Obligations.FrequencyReadsTheRowJudgeSelects : Prop :=
  ReadsFunction .fcFreqRpm 7 true
    (fun _ judge =>
      if judge = true then [(2, 3), (1, 3), (3, 4), (2, 4), (1, 4), (0, 4)]
      else [(3, 3), (2, 3), (1, 3), (3, 4), (2, 4), (1, 4)])
    (fun judge => if judge = true then 5 else 4)

/-- FC_CAPACITANCE: ROM row 8, unit F. -/
def Obligations.CapacitanceReadsRowEight : Prop :=
  ReadsFunction .fcCapacitance 8 true
    (fun _ _ => [(3, 5), (2, 5), (1, 5), (3, 1), (2, 1), (1, 1), (3, 2), (2, 2)]) (fun _ => 6)

/-- FC_TEMPERATURE: no decimal places and no prefix; unit °C with Judge set, °F with it clear. -/
def Obligations.TemperatureUnitFollowsJudge : Prop :=
  ReadsFunction .fcTemperature 9 true (fun _ _ => []) (fun judge => if judge = true then 7 else 8)

/-- FC_ADP0 to FC_ADP3: the default ROM entry and no unit. -/
def Obligations.AdapterCodesReadTheDefaults : Prop :=
  ReadsFunction .fcAdp0 10 true (fun _ _ => []) (fun _ => 0) ∧
  ReadsFunction .fcAdp1 11 true (fun _ _ => []) (fun _ => 0) ∧
  ReadsFunction .fcAdp2 12 true (fun _ _ => []) (fun _ => 0) ∧
  ReadsFunction .fcAdp3 13 true (fun _ _ => []) (fun _ => 0)

/-- FC_UNRECOGNIZED (R162): id 15, not known, the default ROM entry and no unit, for every byte. -/
def Obligations.UnrecognizedCodeReadsTheDefaults : Prop :=
  ∀ code : Byte,
    ReadsFunction (.fcUnrecognized code) 15 false (fun _ _ => []) (fun _ => 0)

/-- R165: the ROM's 256 words with the default variant parameters. -/
def Obligations.RangeRomHoldsTheListedWords : Prop :=
  ∀ (p : Params) (a : BitVec 8),
    p.diodeDp = .three → p.ampDp = .two → p.currentPrefixSwap = false →
    some (rom p a).toNat = romWords[a.toNat]?

/-- R167: what each variant parameter changes in the ROM, and that nothing else changes. -/
def Obligations.VariantParametersChangeTheirRows : Prop :=
  ∀ (p d : Params) (a : BitVec 8),
    d.diodeDp = .three → d.ampDp = .two → d.currentPrefixSwap = false →
    (rom p a).extractLsb' 3 2 =
      (if a.extractLsb' 4 4 = 6 then (if p.diodeDp = .three then 3 else 1)
       else if a.extractLsb' 4 4 = 3 then (if p.ampDp = .two then 2 else 0)
       else (rom d a).extractLsb' 3 2) ∧
    (rom p a).extractLsb' 0 3 =
      (if p.currentPrefixSwap = true ∧ (a = 0x10 ∨ a = 0x11) then 2
       else if p.currentPrefixSwap = true ∧ (a = 0x20 ∨ a = 0x21) then 1
       else (rom d a).extractLsb' 0 3)

/-- R143, R145: the magnitude and the signed value that any function-code row reads. -/
def Obligations.MagnitudeAndSignedValue : Prop :=
  ∀ (i : Instr) (s t : State) (r : Reading), i.isEvent = false → exec i s = .next t →
    t.seen = some r →
    r.mag.toNat = (s.good[1].toNat % 16) * 1000 + (s.good[2].toNat % 16) * 100
      + (s.good[3].toNat % 16) * 10 + s.good[4].toNat % 16 ∧
    r.value.toInt = (if s.good[6].toNat.testBit 2 = true then -(r.mag.toNat : Int) else r.mag.toNat)

/-- R140, R141, R142, R147: the fields of the frame that any function-code row reads. -/
def Obligations.FieldsOfTheFrame : Prop :=
  ∀ (i : Instr) (s t : State) (r : Reading), i.isEvent = false → exec i s = .next t →
    t.seen = some r →
    r.rng.toNat = s.good[0].toNat % 16 ∧
    r.digit1.toNat = s.good[1].toNat % 16 ∧ r.digit2.toNat = s.good[2].toNat % 16 ∧
    r.digit3.toNat = s.good[3].toNat % 16 ∧ r.digit4.toNat = s.good[4].toNat % 16 ∧
    r.overload = s.good[6].toNat.testBit 0 ∧ r.lowbat = s.good[6].toNat.testBit 1 ∧
    r.neg = s.good[6].toNat.testBit 2 ∧ r.judge = s.good[6].toNat.testBit 3 ∧
    r.opt1 = s.good[7] ∧ r.opt2 = s.good[8]

/-- R148: the converter's outputs depend on neither byte 5, nor the row that reads them, nor any
parameter. -/
def Obligations.ConverterIgnoresTheFunctionCode : Prop :=
  ∀ (i j : Instr) (s t u : State) (p : Params) (b : Byte) (r q : Reading),
    i.isEvent = false → j.isEvent = false →
    exec i s = .next t → t.seen = some r →
    exec j { s with params := p, good := s.good.set 5 b } = .next u → u.seen = some q →
    q.rng = r.rng ∧ q.digit1 = r.digit1 ∧ q.digit2 = r.digit2 ∧ q.digit3 = r.digit3 ∧
    q.digit4 = r.digit4 ∧ q.overload = r.overload ∧ q.lowbat = r.lowbat ∧ q.neg = r.neg ∧
    q.judge = r.judge ∧ q.mag = r.mag ∧ q.value = r.value ∧ q.opt1 = r.opt1 ∧ q.opt2 = r.opt2

/-- R172: flipping Judge changes, besides the raw flag, the ROM outputs of Frequency/RPM and the
unit of Frequency/RPM and Temperature, and nothing else. -/
def Obligations.JudgeMattersForTwoFunctions : Prop :=
  ∀ (i : Instr) (s t u : State) (r q : Reading), i.isEvent = false →
    exec i s = .next t → t.seen = some r →
    exec i { s with good := s.good.set 6 (s.good[6] ^^^ 0x08) } = .next u → u.seen = some q →
    (i ≠ .fcFreqRpm → i ≠ .fcTemperature → q = { r with judge := !r.judge }) ∧
    (i = .fcTemperature →
      q = { r with judge := !r.judge, unitCode := if r.judge = true then 8 else 7 }) ∧
    (i = .fcFreqRpm →
      q = { r with judge := !r.judge, unitCode := if r.judge = true then 4 else 5,
                   dp := q.dp, prefixCode := q.prefixCode })

/-- No step makes a consumer see a reserved or unused output code, or a value out of its bounds
(R91, R92, R93, R143, R145, R166). -/
def Obligations.StepsKeepSeenOutputsInRange : Prop :=
  ∀ s t : State, s.SeenInRange → step s = .next t → t.SeenInRange

/-! ### The reference formatter -/

/-- R191: with `overload` the text is exactly `O.L.`, for any outputs at all. -/
def Obligations.OverloadFormatsAsTheLiteral : Prop :=
  ∀ r : Reading, r.overload = true → format r = .next ['O', '.', 'L', '.']

/-- R193: the number text is exact: `dec` of the integer part without a leading zero, and exactly
`places` fractional digits. -/
def Obligations.NumberTextIsExact : Prop :=
  ∀ m places : Nat,
    ∃ whole frac : List Char,
      numberText m places = (if places = 0 then whole else whole ++ ['.'] ++ frac) ∧
      (∀ c ∈ whole ++ frac, c.isDigit = true) ∧
      digitsValue whole = m / 10 ^ places ∧ whole ≠ [] ∧
      (whole.head? = some '0' → whole = ['0']) ∧
      frac.length = places ∧ digitsValue frac = m % 10 ^ places

/-- R192 and R194, for every reading a function-code row makes: the text is never refused, and is the
sign character, the number, the prefix text and the unit text. -/
def Obligations.MachineReadingsFormat : Prop :=
  ∀ (i : Instr) (s t : State) (r : Reading), i.isEvent = false → exec i s = .next t →
    t.seen = some r → r.overload = false →
    ∃ prefixText unitText : List Char,
      format r = .next
        ((if r.neg = true ∧ r.mag ≠ 0 then '-' else '+') :: numberText r.mag.toNat r.dp.toNat
          ++ prefixText ++ unitText) ∧
      [[], ['µ'], ['m'], ['k'], ['M'], ['n']][r.prefixCode.toNat]? = some prefixText ∧
      [[], ['V'], ['A'], ['Ω'], ['H', 'z'], ['r', 'p', 'm'], ['F'], ['°', 'C'], ['°', 'F']][
        r.unitCode.toNat]? = some unitText

/-- R197: in a state that meets the invariant the display is "no data", "no connection" or the
formatted reading of the last good frame; it is never a fault or a refusal. -/
def Obligations.DisplayFollowsTheDisplayState : Prop :=
  ∀ s : State, s.Inv →
    (s.dispState = .noData → s.display = .next .noData) ∧
    (s.dispState = .noConn → s.display = .next .noConn) ∧
    (s.dispState = .fresh ∨ s.dispState = .stale →
      ∃ text : List Char, format (decodeFrame s.params s.good) = .next text ∧
        s.display = .next (.text text))

/-! ### The whole machine -/

/-- R39: every step keeps the invariant, from every state that meets it. -/
def Obligations.StepsKeepTheRegisterRelations : Prop :=
  ∀ s t : State, s.Inv → step s = .next t → t.Inv

/-- R39 holds after reset, and no consumer has seen anything then. -/
def Obligations.RegisterRelationsAtReset : Prop :=
  State.reset.Inv ∧ State.reset.SeenInRange

/-- R119: with `TIMEOUT_ENDS_FRAME = false`, from the start of a cycle and over every line without a
RESET, the counts, classifications and last good frames at the `frame_done` pulses are the results
of successive `read_frame` calls on the same bytes. -/
def Obligations.CompletionsAreReadFrameResults : Prop :=
  ∀ (s : State) (ws : List EvWord), s.params.timeoutEndsFrame = false → s.cnt = 0 →
    (∀ w ∈ ws, decodeEv w ≠ .reset) →
    completions ws s =
      readFrames s.params.maxLen ws.length (ws.map fun w => lineItem (decodeEv w)) s.goodCell

/-- R69, R118, R247: a cycle of payload bytes ended by the terminator is accepted exactly when it has
nine of them, whatever they are, and is then the last good frame, byte by byte. -/
def Obligations.NinePayloadBytesAreAccepted : Prop :=
  ∀ (s : State) (bytes : List Byte), s.cnt = 0 → (∀ b ∈ bytes, b ≠ 0x0A) →
    bytes.length < s.params.maxLen →
    ∃ t : State, clocks (bytes.map byteWord ++ [0x20A]) s = .next t ∧
      t.frameDone = true ∧ t.cnt = 0 ∧ t.lastCount.toNat = bytes.length ∧
      (bytes.length = 9 → t.frameStatus = .valid ∧ t.dispState = .fresh ∧ t.hasGood = true ∧
        t.good.toList = bytes) ∧
      (bytes.length ≠ 9 → t.frameStatus = .framingError ∧ t.hasGood = s.hasGood ∧
        t.good = s.good)

/-- R248 for every `MAX_LEN`: a run of `k` payload bytes overflows `k / MAX_LEN` times, each time as
a framing error of `MAX_LEN` bytes, and leaves a cycle of `k mod MAX_LEN` bytes. -/
def Obligations.LongRunsOverflow : Prop :=
  ∀ (s : State) (bytes : List Byte), s.cnt = 0 → (∀ b ∈ bytes, b ≠ 0x0A) →
    completions (bytes.map byteWord) s =
      List.replicate (bytes.length / s.params.maxLen)
        (s.params.maxLen, FrameStatus.framingError, s.goodCell) ∧
    ∃ t : State, clocks (bytes.map byteWord) s = .next t ∧
      t.cnt.toNat = bytes.length % s.params.maxLen ∧ t.good = s.good

/-- R122: with `TIMEOUT_ENDS_FRAME = false`, quiet clocks, timeouts and fewer than `MAX_LEN` payload
bytes in all never complete a cycle, however many they are. -/
def Obligations.QuietLinesNeverComplete : Prop :=
  ∀ (s : State) (ws : List EvWord), s.params.timeoutEndsFrame = false →
    (∀ w ∈ ws, decodeEv w = .idle ∨ decodeEv w = .timeout ∨ ∃ b, decodeEv w = .data b) →
    s.cnt.toNat + (ws.filter fun w => w[9]).length < s.params.maxLen →
    completions ws s = [] ∧
    ∃ t : State, clocks ws s = .next t ∧
      t.cnt.toNat = s.cnt.toNat + (ws.filter fun w => w[9]).length ∧
      t.frameStatus = s.frameStatus ∧ t.dispState = s.dispState ∧ t.good = s.good

/-- R243: a nine-byte frame with a 0x0A at index `j` splits into a cycle of `j` and a cycle of `8 - j`
bytes, both framing errors. -/
def Obligations.TerminatorValueSplitsTheFrame : Prop :=
  ∀ (s : State) (before after : List Byte), s.cnt = 0 →
    (∀ b ∈ before, b ≠ 0x0A) → (∀ b ∈ after, b ≠ 0x0A) → before.length + after.length = 8 →
    completions ((before ++ [0x0A] ++ after ++ [0x0A]).map byteWord) s =
      [(before.length, .framingError, s.goodCell),
       (8 - before.length, .framingError, s.goodCell)]

/-- R206, R41: the bytes no rule reads (`acc[i]` for `i >= cnt`, and `good` while `has_good = 0`)
influence nothing: two states that differ in them only step alike and stay so. So nothing rests on
the values the model gives them at reset (log 6). -/
def Obligations.UnreadBytesInfluenceNothing : Prop :=
  ∀ s t : State, Indistinguishable s t → SameOutcome (step s) (step t)

/-- R7, R246: elaboration refuses a parameter set exactly when `MAX_LEN` is out of 10..255, or a
function code is 0x40 or above, or two of them are equal; any other set is taken as it is. -/
def Obligations.IllFormedParametersAreRefused : Prop :=
  ∀ r : RawParams,
    ((r.maxLen < 10 ∨ 255 < r.maxLen ∨ (∃ f, 0x40 ≤ (r.openCodes.code f).toNat) ∨
        ∃ f g, f ≠ g ∧ r.openCodes.code f = r.openCodes.code g) →
      elaborateParams r = .refused .illFormedParams) ∧
    (10 ≤ r.maxLen → r.maxLen ≤ 255 → (∀ f, (r.openCodes.code f).toNat < 0x40) →
        (∀ f g, r.openCodes.code f = r.openCodes.code g → f = g) →
      ∃ p : Params, elaborateParams r = .next p ∧ p.codes.openCodes = r.openCodes ∧
        p.maxLen = r.maxLen ∧ p.diodeDp = r.diodeDp ∧ p.ampDp = r.ampDp ∧
        p.currentPrefixSwap = r.currentPrefixSwap ∧ p.timeoutEndsFrame = r.timeoutEndsFrame)

/-- R22, with the codes of R30 and R32: the status ports show the codes of their registers, and a
byte of `good` is shown while a good frame is held (else the read faults, log 7). -/
def Obligations.RegisteredPortsShowTheRegisters : Prop :=
  ∀ s : State,
    s.frameStatusPort.toNat = [FrameStatus.none, .valid, .framingError, .commsError].idxOf s.frameStatus ∧
    s.dispStatePort.toNat = [DispState.noData, .fresh, .stale, .noConn].idxOf s.dispState ∧
    (s.hasGood = true → ∀ i : Fin 9, s.goodByte i = .next s.good[i]) ∧
    (s.hasGood = false → ∀ i : Fin 9, s.goodByte i = .fault .goodUnwritten)

/-- R196: the UTF-8 bytes of the three characters outside ASCII, and that every other character of a
prefix or a unit is its one ASCII byte. -/
def Obligations.TextsAreUtf8 : Prop :=
  utf8 Prefix.micro.text = [0xC2, 0xB5] ∧ utf8 UnitName.ohm.text = [0xCE, 0xA9] ∧
  utf8 UnitName.degC.text = [0xC2, 0xB0, 0x43] ∧ utf8 UnitName.degF.text = [0xC2, 0xB0, 0x46] ∧
  (∀ p : Prefix, p ≠ .micro → utf8 p.text = p.text.map fun c => BitVec.ofNat 8 c.toNat) ∧
  (∀ u : UnitName, u ≠ .ohm → u ≠ .degC → u ≠ .degF →
    utf8 u.text = u.text.map fun c => BitVec.ofNat 8 c.toNat) ∧
  ∀ m places : Nat,
    utf8 (numberText m places) = (numberText m places).map fun c => BitVec.ofNat 8 c.toNat
end

