-- ==== Sys2Proof/Laws/Codes.lean ====
section
/-! SUPPORT. The function-code table is unambiguous, and what the decoder finds in it. -/

namespace Sys2Proof

theorem Func.mem_all (f : Func) : f ∈ Func.all := by cases f <;> decide

/-- R7: the table holds no byte twice. -/
theorem FuncCodes.code_injective (c : FuncCodes) {f g : Func} (h : c.code f = c.code g) : f = g := by
  have hwf := c.wf
  simp only [OpenCodes.wf, OpenCodes.table, Bool.and_eq_true] at hwf
  exact List.inj_on_of_nodup_map (of_decide_eq_true hwf.1) f.mem_all g.mem_all h

/-- R7: every entry is below 0x40. -/
theorem FuncCodes.code_lt (c : FuncCodes) (f : Func) : (c.code f).toNat < 0x40 := by
  have hwf := c.wf
  simp only [OpenCodes.wf, OpenCodes.table, Bool.and_eq_true, decide_eq_true_eq, List.all_eq_true,
    List.mem_map, forall_exists_index, and_imp, forall_apply_eq_imp_iff₂] at hwf
  exact hwf.2 f f.mem_all

/-- R161, the first branch. -/
theorem decodeFuncId_code (c : FuncCodes) (f : Func) : decodeFuncId c (c.code f) = .known f := by
  unfold decodeFuncId
  cases hfind : Func.all.find? (fun g => c.code g == c.code f) with
  | none => simpa using List.find?_eq_none.mp hfind f f.mem_all
  | some g =>
    have hcode : c.code g = c.code f := by simpa using List.find?_some hfind
    rw [c.code_injective hcode]

/-- R161, the second branch. -/
theorem decodeFuncId_unrecognized (c : FuncCodes) (b : Byte) (h : ∀ f, c.code f ≠ b) :
    decodeFuncId c b = .unrecognized := by
  unfold decodeFuncId
  rw [List.find?_eq_none.mpr fun f _ => by simpa using h f]

/-- What a decoded function id says of the byte. -/
theorem decodeFuncId_cases (c : FuncCodes) (b : Byte) :
    (∃ f, decodeFuncId c b = .known f ∧ c.code f = b) ∨
      (decodeFuncId c b = .unrecognized ∧ ∀ f, c.code f ≠ b) := by
  by_cases h : ∃ f, c.code f = b
  · obtain ⟨f, rfl⟩ := h
    exact .inl ⟨f, decodeFuncId_code c f, rfl⟩
  · exact .inr ⟨decodeFuncId_unrecognized c b fun f hf => h ⟨f, hf⟩, fun f hf => h ⟨f, hf⟩⟩

end Sys2Proof
end

