-- ==== Sys2Proof/Laws/State.lean ====
section
/-! SUPPORT. What each update of the state does to each field: one lemma per field per update. -/

namespace Sys2Proof.Machine

variable (s : State)

@[simp] theorem clear_params : s.clear.params = s.params := rfl
@[simp] theorem clear_cnt : s.clear.cnt = 0 := rfl
@[simp] theorem clear_acc : s.clear.acc = s.acc := rfl
@[simp] theorem clear_good : s.clear.good = s.good := rfl
@[simp] theorem clear_hasGood : s.clear.hasGood = false := rfl
@[simp] theorem clear_frameDone : s.clear.frameDone = false := rfl
@[simp] theorem clear_frameStatus : s.clear.frameStatus = FrameStatus.none := rfl
@[simp] theorem clear_lastCount : s.clear.lastCount = 0 := rfl
@[simp] theorem clear_dispState : s.clear.dispState = DispState.noData := rfl
@[simp] theorem clear_inputs : s.clear.inputs = s.inputs := rfl
@[simp] theorem clear_seen : s.clear.seen = s.seen := rfl

@[simp] theorem endPulse_params : s.endPulse.params = s.params := rfl
@[simp] theorem endPulse_cnt : s.endPulse.cnt = s.cnt := rfl
@[simp] theorem endPulse_acc : s.endPulse.acc = s.acc := rfl
@[simp] theorem endPulse_good : s.endPulse.good = s.good := rfl
@[simp] theorem endPulse_hasGood : s.endPulse.hasGood = s.hasGood := rfl
@[simp] theorem endPulse_frameDone : s.endPulse.frameDone = false := rfl
@[simp] theorem endPulse_frameStatus : s.endPulse.frameStatus = s.frameStatus := rfl
@[simp] theorem endPulse_lastCount : s.endPulse.lastCount = s.lastCount := rfl
@[simp] theorem endPulse_dispState : s.endPulse.dispState = s.dispState := rfl
@[simp] theorem endPulse_inputs : s.endPulse.inputs = s.inputs := rfl
@[simp] theorem endPulse_seen : s.endPulse.seen = s.seen := rfl

@[simp] theorem advance_params : s.advance.params = s.params := rfl
@[simp] theorem advance_cnt : s.advance.cnt = s.cnt + 1 := rfl
@[simp] theorem advance_acc : s.advance.acc = s.acc := rfl
@[simp] theorem advance_good : s.advance.good = s.good := rfl
@[simp] theorem advance_hasGood : s.advance.hasGood = s.hasGood := rfl
@[simp] theorem advance_frameDone : s.advance.frameDone = false := rfl
@[simp] theorem advance_frameStatus : s.advance.frameStatus = s.frameStatus := rfl
@[simp] theorem advance_lastCount : s.advance.lastCount = s.lastCount := rfl
@[simp] theorem advance_dispState : s.advance.dispState = s.dispState := rfl
@[simp] theorem advance_inputs : s.advance.inputs = s.inputs := rfl
@[simp] theorem advance_seen : s.advance.seen = s.seen := rfl

@[simp] theorem promote_params : s.promote.params = s.params := rfl
@[simp] theorem promote_cnt : s.promote.cnt = s.cnt := rfl
@[simp] theorem promote_acc : s.promote.acc = s.acc := rfl
@[simp] theorem promote_good : s.promote.good = s.acc := rfl
@[simp] theorem promote_hasGood : s.promote.hasGood = true := rfl
@[simp] theorem promote_frameDone : s.promote.frameDone = s.frameDone := rfl
@[simp] theorem promote_frameStatus : s.promote.frameStatus = s.frameStatus := rfl
@[simp] theorem promote_lastCount : s.promote.lastCount = s.lastCount := rfl
@[simp] theorem promote_dispState : s.promote.dispState = s.dispState := rfl
@[simp] theorem promote_inputs : s.promote.inputs = s.inputs := rfl
@[simp] theorem promote_seen : s.promote.seen = s.seen := rfl

@[simp] theorem endCycle_params (st : FrameStatus) (d : DispState) (n : Nat) : (s.endCycle st d n).params = s.params := rfl
@[simp] theorem endCycle_cnt (st : FrameStatus) (d : DispState) (n : Nat) : (s.endCycle st d n).cnt = 0 := rfl
@[simp] theorem endCycle_acc (st : FrameStatus) (d : DispState) (n : Nat) : (s.endCycle st d n).acc = s.acc := rfl
@[simp] theorem endCycle_good (st : FrameStatus) (d : DispState) (n : Nat) : (s.endCycle st d n).good = s.good := rfl
@[simp] theorem endCycle_hasGood (st : FrameStatus) (d : DispState) (n : Nat) : (s.endCycle st d n).hasGood = s.hasGood := rfl
@[simp] theorem endCycle_frameDone (st : FrameStatus) (d : DispState) (n : Nat) : (s.endCycle st d n).frameDone = true := rfl
@[simp] theorem endCycle_frameStatus (st : FrameStatus) (d : DispState) (n : Nat) : (s.endCycle st d n).frameStatus = st := rfl
@[simp] theorem endCycle_lastCount (st : FrameStatus) (d : DispState) (n : Nat) : (s.endCycle st d n).lastCount = BitVec.ofNat 8 n := rfl
@[simp] theorem endCycle_dispState (st : FrameStatus) (d : DispState) (n : Nat) : (s.endCycle st d n).dispState = d := rfl
@[simp] theorem endCycle_inputs (st : FrameStatus) (d : DispState) (n : Nat) : (s.endCycle st d n).inputs = s.inputs := rfl
@[simp] theorem endCycle_seen (st : FrameStatus) (d : DispState) (n : Nat) : (s.endCycle st d n).seen = s.seen := rfl

@[simp] theorem observe_params (r : Reading) : (s.observe r).params = s.params := rfl
@[simp] theorem observe_cnt (r : Reading) : (s.observe r).cnt = s.cnt := rfl
@[simp] theorem observe_acc (r : Reading) : (s.observe r).acc = s.acc := rfl
@[simp] theorem observe_good (r : Reading) : (s.observe r).good = s.good := rfl
@[simp] theorem observe_hasGood (r : Reading) : (s.observe r).hasGood = s.hasGood := rfl
@[simp] theorem observe_frameDone (r : Reading) : (s.observe r).frameDone = s.frameDone := rfl
@[simp] theorem observe_frameStatus (r : Reading) : (s.observe r).frameStatus = s.frameStatus := rfl
@[simp] theorem observe_lastCount (r : Reading) : (s.observe r).lastCount = s.lastCount := rfl
@[simp] theorem observe_dispState (r : Reading) : (s.observe r).dispState = s.dispState := rfl
@[simp] theorem observe_inputs (r : Reading) : (s.observe r).inputs = s.inputs := rfl
@[simp] theorem observe_seen (r : Reading) : (s.observe r).seen = some r := rfl

@[simp] theorem takeInput_params : s.takeInput.params = s.params := rfl
@[simp] theorem takeInput_cnt : s.takeInput.cnt = s.cnt := rfl
@[simp] theorem takeInput_acc : s.takeInput.acc = s.acc := rfl
@[simp] theorem takeInput_good : s.takeInput.good = s.good := rfl
@[simp] theorem takeInput_hasGood : s.takeInput.hasGood = s.hasGood := rfl
@[simp] theorem takeInput_frameDone : s.takeInput.frameDone = s.frameDone := rfl
@[simp] theorem takeInput_frameStatus : s.takeInput.frameStatus = s.frameStatus := rfl
@[simp] theorem takeInput_lastCount : s.takeInput.lastCount = s.lastCount := rfl
@[simp] theorem takeInput_dispState : s.takeInput.dispState = s.dispState := rfl
@[simp] theorem takeInput_inputs : s.takeInput.inputs = s.inputs.tail := rfl
@[simp] theorem takeInput_seen : s.takeInput.seen = s.seen := rfl

/-- Storing a payload byte writes one entry of `acc`, or none from position 9 on (R61). -/
theorem storeByte_acc (b : Byte) :
    (s.storeByte b).acc = if h : s.cnt.toNat < 9 then s.acc.set s.cnt.toNat b h else s.acc := by
  unfold State.storeByte
  split <;> rfl

@[simp] theorem storeByte_params (b : Byte) : (s.storeByte b).params = s.params := by
  unfold State.storeByte
  split <;> rfl

@[simp] theorem storeByte_cnt (b : Byte) : (s.storeByte b).cnt = s.cnt := by
  unfold State.storeByte
  split <;> rfl

@[simp] theorem storeByte_good (b : Byte) : (s.storeByte b).good = s.good := by
  unfold State.storeByte
  split <;> rfl

@[simp] theorem storeByte_hasGood (b : Byte) : (s.storeByte b).hasGood = s.hasGood := by
  unfold State.storeByte
  split <;> rfl

@[simp] theorem storeByte_frameDone (b : Byte) : (s.storeByte b).frameDone = s.frameDone := by
  unfold State.storeByte
  split <;> rfl

@[simp] theorem storeByte_frameStatus (b : Byte) : (s.storeByte b).frameStatus = s.frameStatus := by
  unfold State.storeByte
  split <;> rfl

@[simp] theorem storeByte_lastCount (b : Byte) : (s.storeByte b).lastCount = s.lastCount := by
  unfold State.storeByte
  split <;> rfl

@[simp] theorem storeByte_dispState (b : Byte) : (s.storeByte b).dispState = s.dispState := by
  unfold State.storeByte
  split <;> rfl

@[simp] theorem storeByte_inputs (b : Byte) : (s.storeByte b).inputs = s.inputs := by
  unfold State.storeByte
  split <;> rfl

@[simp] theorem storeByte_seen (b : Byte) : (s.storeByte b).seen = s.seen := by
  unfold State.storeByte
  split <;> rfl

end Sys2Proof.Machine
end

