-- ==== Sys2Proof/Laws/Ops.lean ====
section
/-! SUPPORT. What each shared operation can do, said once: a byte store, a completion, a read of the
decoded outputs, taking an input, and one operation of each kind. -/

namespace Sys2Proof.Machine

/-- The byte lands at `cnt`; every other entry stays (R61). -/
theorem storeByte_acc_getElem (s : State) (b : Byte) (i : Nat) (h : i < 9) :
    (s.storeByte b).acc[i] = if i = s.cnt.toNat then b else s.acc[i] := by
  rw [storeByte_acc]
  split
  · rw [Vector.getElem_set]
    simp only [eq_comm]
  · rw [if_neg (by omega)]

/-- Storing a payload byte changes `acc` only. -/
theorem storeByte_eq (s : State) (b : Byte) :
    s.storeByte b = { s with acc := (s.storeByte b).acc } := by
  unfold State.storeByte
  split <;> rfl

@[simp] theorem classify_comms (n : Nat) : classify .comms n = .commsError := rfl

theorem classify_len (n : Nat) :
    classify .len n = if n = 9 then .valid else .framingError := rfl

@[simp] theorem complete_params (k : CycleEnd) (n : Nat) (s : State) :
    (s.complete k n).params = s.params := by
  unfold State.complete
  dsimp only
  split <;> rfl

@[simp] theorem complete_cnt (k : CycleEnd) (n : Nat) (s : State) : (s.complete k n).cnt = 0 := rfl

@[simp] theorem complete_acc (k : CycleEnd) (n : Nat) (s : State) :
    (s.complete k n).acc = s.acc := by
  unfold State.complete
  dsimp only
  split <;> rfl

@[simp] theorem complete_inputs (k : CycleEnd) (n : Nat) (s : State) :
    (s.complete k n).inputs = s.inputs := by
  unfold State.complete
  dsimp only
  split <;> rfl

@[simp] theorem complete_seen (k : CycleEnd) (n : Nat) (s : State) :
    (s.complete k n).seen = s.seen := by
  unfold State.complete
  dsimp only
  split <;> rfl

@[simp] theorem complete_frameDone (k : CycleEnd) (n : Nat) (s : State) :
    (s.complete k n).frameDone = true := rfl

@[simp] theorem complete_frameStatus (k : CycleEnd) (n : Nat) (s : State) :
    (s.complete k n).frameStatus = classify k n := rfl

@[simp] theorem complete_lastCount (k : CycleEnd) (n : Nat) (s : State) :
    (s.complete k n).lastCount = BitVec.ofNat 8 n := rfl

@[simp] theorem complete_dispState (k : CycleEnd) (n : Nat) (s : State) :
    (s.complete k n).dispState = nextDisp (classify k n) s.hasGood s.dispState := rfl

/-- R116: a valid completion, and no other, replaces `good`. -/
theorem complete_good (k : CycleEnd) (n : Nat) (s : State) :
    (s.complete k n).good = if classify k n = .valid then s.acc else s.good := by
  unfold State.complete
  dsimp only
  split <;> rfl

theorem complete_hasGood (k : CycleEnd) (n : Nat) (s : State) :
    (s.complete k n).hasGood = if classify k n = .valid then true else s.hasGood := by
  unfold State.complete
  dsimp only
  split <;> rfl

/-- Everything an event can do: the reset values, the end of the pulse, a counted byte, or a
completion of the count or of the overflowing byte. -/
theorem exec_event_cases {i : Instr} {s t : State} (hi : i.isEvent = true)
    (h : exec i s = .next t) :
    (i = .reset ∧ t = s.clear) ∨
      ((i = .idle ∨ i = .timeout ∧ s.params.timeoutEndsFrame = false) ∧ t = s.endPulse) ∨
      (i = .commsError ∧ t = s.complete .comms s.cnt.toNat) ∨
      ((i = .term ∨ i = .timeout ∧ s.params.timeoutEndsFrame = true) ∧
        t = s.complete .len s.cnt.toNat) ∨
      (∃ b, i = .data b ∧ s.cnt.toNat + 1 ≠ s.params.maxLen ∧ t = (s.storeByte b).advance) ∨
      (∃ b, i = .data b ∧ s.cnt.toNat + 1 = s.params.maxLen ∧
        t = (s.storeByte b).complete .len s.params.maxLen) := by
  cases i <;> simp only [Instr.isEvent, Bool.false_eq_true] at hi
  case reset => exact .inl ⟨rfl, by injection h with h; exact h.symm⟩
  case commsError => exact .inr (.inr (.inl ⟨rfl, by injection h with h; exact h.symm⟩))
  case term =>
    exact .inr (.inr (.inr (.inl ⟨.inl rfl, by injection h with h; exact h.symm⟩)))
  case idle => exact .inr (.inl ⟨.inl rfl, by injection h with h; exact h.symm⟩)
  case timeout =>
    simp only [exec, execTimeout] at h
    split at h <;> rename_i hp <;> injection h with h
    · exact .inr (.inr (.inr (.inl ⟨.inr ⟨rfl, hp⟩, h.symm⟩)))
    · exact .inr (.inl ⟨.inr ⟨rfl, by simpa using hp⟩, h.symm⟩)
  case data b =>
    simp only [exec, execData] at h
    split at h <;> rename_i hc <;> injection h with h
    · exact .inr (.inr (.inr (.inr (.inr ⟨b, rfl, hc, h.symm⟩))))
    · exact .inr (.inr (.inr (.inr (.inl ⟨b, rfl, hc, h.symm⟩))))

/-- A function-code row is one read of the decoded outputs with its function. -/
theorem exec_function {i : Instr} {fid : FuncId} (s : State) (h : i.funcId? = some fid) :
    exec i s = s.readAs fid := by
  cases i <;> simp only [Instr.funcId?, reduceCtorEq] at h <;> injection h with h <;> subst h <;> rfl

/-- A read completes exactly on a written frame, and then only `seen` changes. -/
theorem readAs_next_iff (fid : FuncId) (s t : State) :
    s.readAs fid = .next t ↔
      s.hasGood = true ∧ t = s.observe (reading s.params fid s.good) := by
  unfold State.readAs
  split <;> rename_i hg
  · simp [hg, eq_comm]
  · simp [hg]

/-- The two kinds of operation. -/
theorem event_or_function (i : Instr) :
    i.isEvent = true ∨ ∃ fid, i.funcId? = some fid := by
  cases i <;> first | exact .inl rfl | exact .inr ⟨_, rfl⟩

theorem instr_funcId (fid : FuncId) (b : Byte) : (fid.instr b).funcId? = some fid := by
  cases fid with
  | known f => cases f <;> rfl
  | unrecognized => rfl

theorem fetch_nil {s : State} (h : s.inputs = []) : s.fetch = (decodeEv 0, s) := by
  simp [State.fetch, h]

theorem fetch_clock {s : State} {w : EvWord} {rest : List Input}
    (h : s.inputs = .clock w :: rest) : s.fetch = (decodeEv w, s.takeInput) := by
  simp [State.fetch, h]

theorem fetch_observe {s : State} {rest : List Input} (h : s.inputs = .observe :: rest) :
    s.fetch = (decodeFc s.params.codes (functionCode s.good), s.takeInput) := by
  simp [State.fetch, h]

/-- Taking an input touches no register. -/
theorem fetch_state (s : State) : s.fetch.2 = s ∨ s.fetch.2 = s.takeInput := by
  unfold State.fetch
  split <;> simp

end Sys2Proof.Machine
end

