-- ==== Sys2Proof/Laws/PerInstr.lean ====
section
/-! SUPPORT. Per operation: its encoding lies in its own row of the opcode table. -/

namespace Sys2Proof.Laws.InRow

/-- The mask and the match of an event's row, as the opcode table lists them; none for a
function-code row. -/
def evRow : Instr → Option (EvWord × EvWord)
  | .reset => some (0x800, 0x800)
  | .commsError => some (0xC00, 0x400)
  | .term => some (0xEFF, 0x20A)
  | .data _ => some (0xE00, 0x200)
  | .timeout => some (0xF00, 0x100)
  | .idle => some (0xF00, 0x000)
  | .fcVoltage | .fcCurrentUa | .fcCurrentMa | .fcCurrentA | .fcOhms | .fcContinuity | .fcDiode
  | .fcFreqRpm | .fcCapacitance | .fcTemperature | .fcAdp0 | .fcAdp1 | .fcAdp2 | .fcAdp3
  | .fcUnrecognized _ => none

/-- An event's word has its row's fixed bits; a known function's byte has bits 7:6 clear; the byte of
the unrecognized row is its operand. -/
def Statement (i : Instr) : Prop :=
  ∀ c : FuncCodes, match encode c i with
    | .ev w => ∃ row, evRow i = some row ∧ w &&& row.1 = row.2
    | .fc b => i = .fcUnrecognized b ∨ b.toNat < 0x40

theorem reset : Statement .reset := fun _ => ⟨_, rfl, rfl⟩
theorem commsError : Statement .commsError := fun _ => ⟨_, rfl, rfl⟩
theorem term : Statement .term := fun _ => ⟨_, rfl, rfl⟩
theorem data (b : Byte) : Statement (.data b) := fun _ => ⟨_, rfl, by revert b; decide⟩
theorem timeout : Statement .timeout := fun _ => ⟨_, rfl, rfl⟩
theorem idle : Statement .idle := fun _ => ⟨_, rfl, rfl⟩
theorem fcVoltage : Statement .fcVoltage := fun c => .inr (c.code_lt _)
theorem fcCurrentUa : Statement .fcCurrentUa := fun c => .inr (c.code_lt _)
theorem fcCurrentMa : Statement .fcCurrentMa := fun c => .inr (c.code_lt _)
theorem fcCurrentA : Statement .fcCurrentA := fun c => .inr (c.code_lt _)
theorem fcOhms : Statement .fcOhms := fun c => .inr (c.code_lt _)
theorem fcContinuity : Statement .fcContinuity := fun c => .inr (c.code_lt _)
theorem fcDiode : Statement .fcDiode := fun c => .inr (c.code_lt _)
theorem fcFreqRpm : Statement .fcFreqRpm := fun c => .inr (c.code_lt _)
theorem fcCapacitance : Statement .fcCapacitance := fun c => .inr (c.code_lt _)
theorem fcTemperature : Statement .fcTemperature := fun c => .inr (c.code_lt _)
theorem fcAdp0 : Statement .fcAdp0 := fun c => .inr (c.code_lt _)
theorem fcAdp1 : Statement .fcAdp1 := fun c => .inr (c.code_lt _)
theorem fcAdp2 : Statement .fcAdp2 := fun c => .inr (c.code_lt _)
theorem fcAdp3 : Statement .fcAdp3 := fun c => .inr (c.code_lt _)
theorem fcUnrecognized (code : Byte) : Statement (.fcUnrecognized code) := fun _ => .inl rfl

end Sys2Proof.Laws.InRow
end

