-- ==== Sys2Proof/Tests/Slice0.lean ====
section
/-! SUPPORT. The model's own tests. Expected values are the spec's (95_test_vectors.md, with the vector's
name, or the rule named); the function codes of `testCodes` are a parameter set for tests only, the
candidate set of 93_implementation_defined.md I21, and no claim about the meter. A `witness_` theorem
shows that the hypotheses of the statement it is named after can be met, clause by clause. -/

namespace Sys2Proof.Tests

open Sys2Proof Sys2Proof.Machine

/-! ### Helpers -/

def testOpen : OpenCodes :=
  ⟨0x3D, 0x3F, 0x39, 0x33, 0x35, 0x31, 0x32, 0x36, 0x34, 0x3E, 0x3C, 0x38, 0x3A⟩

def testCodes : FuncCodes where
  openCodes := testOpen

def testParams : Params where
  codes := testCodes

def testRaw : RawParams := ⟨testOpen, 10, .three, .two, false, false⟩

/-- After reset, with the test parameters. -/
def base : State := { State.reset with params := testParams }

def timeoutBase : State := { base with params := { testParams with timeoutEndsFrame := true } }

def nine : Frame := #v[0x31, 0x34, 0x33, 0x32, 0x31, 0x3B, 0x30, 0x30, 0x30]

/-- `n` payload bytes in, those of `nine` first. -/
def counted (n : Byte) : State := { base with acc := nine, cnt := n }

/-- A good frame held. -/
def holding (g : Frame) : State := { base with good := g, hasGood := true, dispState := .fresh }

def nextOf : Result State → Option State
  | .next s => some s
  | .fault _ => none
  | .refused _ => none

def seenOf (i : Instr) (g : Frame) : Option Reading := (nextOf (exec i (holding g))).bind State.seen

/-- A frame with the digits 1 2 3 4, as the L2-R vectors have it. -/
def frame1234 (rangeByte code flags : Byte) : Frame :=
  #v[rangeByte, 0x31, 0x32, 0x33, 0x34, code, flags, 0x30, 0x30]

def decoded (i : Instr) (g : Frame) : Option (BitVec 4 × BitVec 2 × BitVec 3 × BitVec 4) :=
  (seenOf i g).map fun r => (r.fid, r.dp, r.prefixCode, r.unitCode)

def textOf (i : Instr) (g : Frame) : Option (List Char) :=
  (seenOf i g).bind fun r =>
    match format r with
    | .next t => some t
    | .fault _ => none
    | .refused _ => none

/-! ### Well-formedness: one ill-formed term for each check -/

theorem test_wf_data_is_not_the_terminator : (Instr.data 0x0A).wf testCodes = false := by decide
theorem test_wf_unrecognized_is_not_voltage :
    (Instr.fcUnrecognized 0x3B).wf testCodes = false := by decide
theorem test_wf_unrecognized_is_not_an_open_code :
    (Instr.fcUnrecognized 0x3A).wf testCodes = false := by decide
theorem test_codes_equal_to_voltage : ({ testOpen with ohms := 0x3B } : OpenCodes).wf = false := by
  decide
theorem test_codes_repeated : ({ testOpen with ohms := 0x3A } : OpenCodes).wf = false := by decide
theorem test_codes_too_large : ({ testOpen with ohms := 0x40 } : OpenCodes).wf = false := by decide

/-! ### Decoding: words written from R90 (L2-E) and R160 -/

theorem test_decode_reset : decodeEv 0b1011_00110001#12 = .reset := by decide
theorem test_decode_commsError : decodeEv 0b0111_00001010#12 = .commsError := by decide
theorem test_decode_term : decodeEv 0b0011_00001010#12 = .term := by decide
theorem test_decode_data : decodeEv 0b0010_00001101#12 = .data 0x0D := by decide
theorem test_decode_timeout : decodeEv 0b0001_11111111#12 = .timeout := by decide
theorem test_decode_idle : decodeEv 0b0000_11111111#12 = .idle := by decide
theorem test_decode_voltage : decode testCodes (.fc 0b00111011#8) = .fcVoltage := by decide
theorem test_decode_voltage_of_this_hardware : decodeTableWord 8 0x3B = some .fcVoltage := by decide
theorem test_decode_open_codes :
    (testCodes.openCodes.table.map fun b => decode testCodes (.fc b)) =
      [.fcVoltage, .fcCurrentUa, .fcCurrentMa, .fcCurrentA, .fcOhms, .fcContinuity, .fcDiode,
       .fcFreqRpm, .fcCapacitance, .fcTemperature, .fcAdp0, .fcAdp1, .fcAdp2, .fcAdp3] := by decide
theorem test_decode_unrecognized :
    decode testCodes (.fc 0x7B) = .fcUnrecognized 0x7B ∧
    decode testCodes (.fc 0x00) = .fcUnrecognized 0x00 := by decide
theorem test_table_word_of_an_event : decodeTableWord 16 0x631 = some .commsError := by decide
theorem test_table_word_too_wide : Code.ofTable 16 0x1000 = .error .evWordTooWide := by rfl
theorem test_table_byte_too_wide : Code.ofTable 8 0x100 = .error .fcByteTooWide := by rfl
theorem test_table_length : Code.ofTable 24 0 = .error .noSuchFormat := by rfl

/-- For every table, each open code decodes to its own row (R161). -/
theorem test_decode_each_open_code (c : FuncCodes) (f : Func) :
    decode c (.fc (c.code f)) = (FuncId.known f).instr (c.code f) := by
  simp only [decode, decodeFc, decodeFuncId_code]

/-! ### The first step after reset -/

theorem test_first_step_runs_an_event :
    step (State.reset.withFetchWord 16 0x231) = exec (.data 0x31) State.reset := rfl
theorem test_first_step_runs_voltage :
    step (State.reset.withFetchWord 8 0x3B) =
      exec .fcVoltage { State.reset with good := State.reset.good.set 5 0x3B, hasGood := true } := rfl
theorem test_quiet_line_is_idle : step State.reset = exec .idle State.reset := rfl

/-! ### One event each -/

/-- R110's example: RESET after a valid frame. -/
theorem test_reset_keeps_good :
    (nextOf (exec .reset (holding nine))).map (fun s => (s.hasGood, s.dispState, s.good)) =
      some (false, .noData, nine) := by decide

/-- S19: RESET in mid-cycle reports nothing and keeps `acc`. -/
theorem test_reset_in_mid_cycle :
    (nextOf (exec .reset (counted 1))).map (fun s => (s.cnt, s.frameDone, s.acc)) =
      some (0, false, nine) := by decide

/-- S10: nine bytes, then an error: not promoted. -/
theorem test_commsError_after_nine :
    (nextOf (exec .commsError (counted 9))).map
      (fun s => (s.frameStatus, s.lastCount, s.dispState, s.hasGood)) =
      some (.commsError, 9, .noConn, false) := by decide

/-- S13: an error keeps `good`. -/
theorem test_commsError_keeps_good :
    (nextOf (exec .commsError (holding nine))).map (fun s => (s.lastCount, s.hasGood, s.good)) =
      some (0, true, nine) := by decide

/-- S1: the terminator after nine bytes. -/
theorem test_term_accepts_nine :
    nextOf (exec .term (counted 9)) =
      some { counted 0 with good := nine, hasGood := true, frameStatus := .valid, lastCount := 9,
                            dispState := .fresh, frameDone := true } := by decide

/-- S5: one byte short. -/
theorem test_term_refuses_eight :
    (nextOf (exec .term (counted 8))).map
      (fun s => (s.frameStatus, s.lastCount, s.dispState, s.hasGood, s.frameDone)) =
      some (.framingError, 8, .noData, false, true) := by decide

/-- R114's example: `B 32` from `cnt = 3`. -/
theorem test_data_stores_at_cnt :
    (nextOf (exec (.data 0xAB) (counted 3))).map (fun s => (s.acc, s.cnt, s.frameDone)) =
      some (nine.set 3 0xAB, 4, false) := by decide

/-- S6: the tenth byte overflows and is not stored. -/
theorem test_data_overflows :
    (nextOf (exec (.data 0xAB) (counted 9))).map
      (fun s => (s.acc, s.cnt, s.frameStatus, s.lastCount, s.dispState)) =
      some (nine, 0, .framingError, 10, .noData) := by decide

/-- S16: the default timeout changes nothing. -/
theorem test_timeout_is_idle :
    nextOf (exec .timeout (counted 9)) = some (counted 9) := by decide

/-- S23: a timeout after nine bytes accepts the frame. -/
theorem test_timeout_ends_the_frame :
    (nextOf (exec .timeout { timeoutBase with acc := nine, cnt := 9 })).map
      (fun s => (s.frameStatus, s.lastCount, s.dispState, s.good)) =
      some (.valid, 9, .fresh, nine) := by decide

/-- P3, clock 14: IDLE ends the pulse. -/
theorem test_idle_ends_the_pulse :
    nextOf (exec .idle { counted 2 with frameDone := true }) = some (counted 2) := by decide

/-! ### One function-code row each: fid, dp, prefix, unit (L2-R), and some texts -/

theorem test_voltage : decoded .fcVoltage (frame1234 0x30 0x3B 0x38) = some (0, 1, 2, 1) := by decide
theorem test_currentUa : decoded .fcCurrentUa (frame1234 0x31 0x3D 0x30) = some (1, 0, 1, 2) := by decide
theorem test_currentMa : decoded .fcCurrentMa (frame1234 0x30 0x3F 0x30) = some (2, 2, 2, 2) := by decide
theorem test_currentA : decoded .fcCurrentA (frame1234 0x3F 0x39 0x38) = some (3, 2, 0, 2) := by decide
theorem test_ohms : decoded .fcOhms (frame1234 0x35 0x33 0x30) = some (4, 2, 4, 3) := by decide
theorem test_continuity : decoded .fcContinuity (frame1234 0x39 0x35 0x38) = some (5, 1, 0, 3) := by decide
theorem test_diode : decoded .fcDiode (frame1234 0x3F 0x31 0x30) = some (6, 3, 0, 1) := by decide
theorem test_frequency : decoded .fcFreqRpm (frame1234 0x35 0x32 0x30) = some (7, 1, 4, 4) := by decide
theorem test_rpm : decoded .fcFreqRpm (frame1234 0x30 0x32 0x38) = some (7, 2, 3, 5) := by decide
theorem test_capacitance : decoded .fcCapacitance (frame1234 0x36 0x36 0x30) = some (8, 3, 2, 6) := by decide
theorem test_temperature : decoded .fcTemperature (frame1234 0x30 0x34 0x38) = some (9, 0, 0, 7) := by decide
theorem test_adp0 : decoded .fcAdp0 (frame1234 0x30 0x3E 0x30) = some (10, 0, 0, 0) := by decide
theorem test_adp1 : decoded .fcAdp1 (frame1234 0x33 0x3C 0x38) = some (11, 0, 0, 0) := by decide
theorem test_adp2 : decoded .fcAdp2 (frame1234 0x30 0x38 0x30) = some (12, 0, 0, 0) := by decide
theorem test_adp3 : decoded .fcAdp3 (frame1234 0x3F 0x3A 0x38) = some (13, 0, 0, 0) := by decide
theorem test_unrecognized :
    decoded (.fcUnrecognized 0x7B) (frame1234 0x33 0x7B 0x30) = some (15, 0, 0, 0) := by decide

/-- S20: the outputs of a frame carry no meaning after a reset. -/
theorem test_read_without_a_frame : exec .fcVoltage base = .fault .goodUnwritten := rfl

/-- C1 (P1, and L1-7 as the rules read it). -/
theorem test_text_c1 :
    textOf .fcVoltage #v[0x31, 0x34, 0x33, 0x32, 0x31, 0x3B, 0x34, 0x30, 0x3B] =
      some ['-', '4', '.', '3', '2', '1', 'V'] := by decide

/-- C4: negative zero. -/
theorem test_text_c4 :
    textOf .fcVoltage #v[0x32, 0x30, 0x30, 0x30, 0x30, 0x3B, 0x34, 0x30, 0x30] =
      some ['+', '0', '.', '0', '0', 'V'] := by decide

/-- C8: upper nibbles are ignored, the option bytes are raw. -/
theorem test_upper_nibbles :
    (seenOf .fcVoltage #v[0xF1, 0xC4, 0x03, 0x72, 0xE1, 0x3B, 0xF0, 0xAA, 0x55]).map
      (fun r => (r.rng, r.mag, r.value, r.opt1, r.opt2)) =
      some (1, 4321, 0x10E1, 0xAA, 0x55) := by decide

/-- C6: nibbles above 9. -/
theorem test_large_nibbles :
    (seenOf .fcVoltage #v[0x30, 0x3F, 0x3F, 0x3F, 0x3F, 0x3B, 0x34, 0x30, 0x30]).map
      (fun r => (r.mag, r.value)) = some (16665, 0xBEE7) := by decide

/-- C10: OverLimit wins in the text. -/
theorem test_text_c10 :
    textOf .fcVoltage #v[0x31, 0x39, 0x39, 0x39, 0x39, 0x3B, 0x35, 0x30, 0x30] =
      some ['O', '.', 'L', '.'] := by decide

/-- L2-R, OHMS at nibble 1, and its UTF-8 suffix (L2-F). -/
theorem test_text_ohms :
    (textOf .fcOhms (frame1234 0x31 0x33 0x30)).map utf8 =
      some [0x2B, 0x31, 0x2E, 0x32, 0x33, 0x34, 0x6B, 0xCE, 0xA9] := by decide

/-- The variant rows of 95_test_vectors.md. -/
theorem test_variants :
    (rom { testParams with diodeDp := .one } 0x60, rom { testParams with ampDp := .zero } 0x30,
     rom { testParams with currentPrefixSwap := true } 0x11,
     rom { testParams with currentPrefixSwap := true } 0x20) = (0x08, 0x00, 0x02, 0x11) := by decide

/-- I17: a reserved code is refused by the formatter. -/
theorem test_reserved_code (r : Reading) (h : r.overload = false) (h' : r.prefixCode = 6) :
    format r = .refused .reservedOutputCode := by
  have hp : prefixOfCode r.prefixCode = none := by rw [h']; rfl
  simp only [format, h, hp, Bool.false_eq_true, if_false]

/-- I12, R246. -/
theorem test_maxLen_nine_is_refused :
    elaborateParams { testRaw with maxLen := 9 } = .refused .illFormedParams := rfl

/-! ### The hypotheses of the statements can be met -/

theorem witness_EventPatternsSelectTheirEvent :
    ({ base with inputs := [.clock 0x800] } : State).inputs = .clock 0x800 :: [] ∧
    (0xFFF &&& 0x800 = (0x800 : EvWord)) ∧ (0x7FF &&& 0xC00 = (0x400 : EvWord)) ∧
    (0x30A &&& 0xEFF = (0x20A : EvWord)) ∧
    (0x3FF &&& 0xE00 = (0x200 : EvWord) ∧ (0x3FF : EvWord).extractLsb' 0 8 ≠ 0x0A) ∧
    (0x1FF &&& 0xF00 = (0x100 : EvWord)) ∧ (0x0FF &&& 0xF00 = (0x000 : EvWord)) := by decide

theorem witness_DecodingInvertsEncoding :
    (Instr.data 0x00).wf testCodes = true ∧ (Instr.data 0xFF).wf testCodes = true ∧
    (Instr.fcUnrecognized 0xFF).wf testCodes = true ∧ Instr.fcAdp3.wf testCodes = true := by decide

theorem witness_StepRunsTheDecodedOperation :
    base.inputs = [] ∧
    ({ base with inputs := [.clock 0x20A, .observe] } : State).inputs = .clock 0x20A :: [.observe] ∧
    ({ base with inputs := [.observe] } : State).inputs = .observe :: [] := by decide

theorem witness_PlacedWordIsTheNextOperation :
    (Instr.data 0xFF).wf base.params.codes = true ∧ (Instr.data 0xFF).isEvent = true ∧
    (Instr.fcUnrecognized 0x40).wf base.params.codes = true ∧
    (Instr.fcUnrecognized 0x40).isEvent = false := by decide

theorem witness_FunctionCodeIsFoundInTheTable :
    ({ holding nine with inputs := [.observe] } : State).inputs = .observe :: [] ∧
    (holding nine).hasGood = true ∧
    Func.all[0]? = some .voltage ∧ nine[5] = testParams.codes.code .voltage ∧
    Func.all[13]? = some .adp3 ∧ (frame1234 0x30 0x3A 0x30)[5] = testParams.codes.code .adp3 ∧
    (∀ f ∈ Func.all, (frame1234 0x30 0x40 0x30)[5] ≠ testParams.codes.code f) := by decide

theorem witness_HighBitsOfByteFiveAreUnrecognized :
    ({ holding (frame1234 0 0x40 0) with inputs := [.observe] } : State).inputs = .observe :: [] ∧
    (holding (frame1234 0 0x40 0)).hasGood = true ∧
    (frame1234 0 0x40 0)[5][6] = true ∧ (frame1234 0 0x80 0)[5][7] = true := by decide

theorem witness_TimeoutFollowsItsParameter :
    base.params.timeoutEndsFrame = false ∧ timeoutBase.params.timeoutEndsFrame = true ∧
    ({ timeoutBase with cnt := 9 } : State).cnt = 9 ∧
    ({ timeoutBase with cnt := 8 } : State).cnt ≠ 9 := by decide

theorem witness_DataStoresAndCounts :
    (counted 8).cnt.toNat + 1 ≠ (counted 8).params.maxLen ∧
    (counted 9).cnt.toNat + 1 = (counted 9).params.maxLen := by decide

theorem witness_TermAcceptsExactlyNineBytes :
    (counted 9).cnt = 9 ∧ (counted 8).cnt ≠ 9 ∧ (counted 0).cnt ≠ 9 := by decide

theorem witness_CompletionsDriveTheDisplayState :
    (nextOf (exec .commsError (counted 0))).map (fun t => (t.frameDone, t.frameStatus)) =
      some (true, .commsError) ∧
    (nextOf (exec .term (counted 9))).map (fun t => (t.frameDone, t.frameStatus)) =
      some (true, .valid) ∧
    (nextOf (exec .term (counted 8))).map (fun t => (t.frameDone, t.frameStatus)) =
      some (true, .framingError) ∧ (counted 8).hasGood = false ∧
    (nextOf (exec .term (holding nine))).map (fun t => (t.frameDone, t.frameStatus)) =
      some (true, .framingError) ∧ (holding nine).hasGood = true ∧
    (nextOf (exec .idle base)).map (fun t => t.frameDone) = some false := by decide

theorem witness_CompletionsReportTheCount :
    (nextOf (exec .term (counted 9))).map (fun t => t.frameDone) = some true ∧
    (nextOf (exec (.data 0x31) (counted 9))).map (fun t => t.frameDone) = some true ∧
    (nextOf (exec (.data 0x31) (counted 8))).map (fun t => t.frameDone) = some false ∧
    (nextOf (exec .idle (counted 8))).map (fun t => t.frameDone) = some false := by decide

theorem witness_OnlyPromotionWritesGood :
    (nextOf (exec .term (counted 9))).map (fun t => decide (t.good ≠ (counted 9).good)) =
      some true ∧
    (nextOf (exec .timeout { timeoutBase with acc := nine, cnt := 9 })).map
      (fun t => decide (t.good ≠ timeoutBase.good)) = some true := by decide

theorem witness_OnlyDataWritesAcc :
    (nextOf (exec (.data 0xAB) (counted 8))).isSome = true ∧
    (nextOf (exec .idle (counted 8))).isSome = true := by decide

theorem witness_OnlyResetClearsHasGood :
    (nextOf (exec .reset (holding nine))).isSome = true ∧
    (nextOf (exec .idle (holding nine))).isSome = true ∧ (holding nine).hasGood = true ∧
    (counted 9).hasGood = false ∧
    (nextOf (exec .term (counted 9))).map (fun t => t.hasGood) = some true := by decide

theorem witness_StepsKeepTheParameters : (nextOf (step (holding nine))).isSome = true := by decide

theorem witness_FramingErrorShowsTheOldReading :
    (nextOf (exec .term (holding nine))).map (fun t => (t.frameDone, t.frameStatus)) =
      some (true, .framingError) ∧ (holding nine).hasGood = true := by decide

theorem witness_ReadingChangesNoRegister :
    (Instr.fcUnrecognized 0x40).isEvent = false ∧ (holding nine).hasGood = true := by decide

theorem witness_UnwrittenFrameCannotBeRead :
    Instr.fcVoltage.isEvent = false ∧ base.hasGood = false := by decide

/-- The hypothesis of every statement of the shape `ReadsFunction`. -/
theorem witness_ReadsFunction :
    (holding (frame1234 0x30 0x3B 0x30)).hasGood = true ∧
    (holding (frame1234 0x3F 0x32 0x38)).good[6].toNat.testBit 3 = true := by decide

theorem witness_RangeRomHoldsTheListedWords :
    testParams.diodeDp = .three ∧ testParams.ampDp = .two ∧ testParams.currentPrefixSwap = false := by
  decide

theorem witness_VariantParametersChangeTheirRows :
    testParams.diodeDp = .three ∧ testParams.ampDp = .two ∧ testParams.currentPrefixSwap = false ∧
    (0x6F : BitVec 8).extractLsb' 4 4 = 6 ∧ (0x30 : BitVec 8).extractLsb' 4 4 = 3 := by decide

/-- The hypotheses of MagnitudeAndSignedValue, FieldsOfTheFrame and MachineReadingsFormat. -/
theorem witness_a_reading_is_seen :
    (seenOf .fcVoltage nine).map (fun r => r.overload) = some false ∧
    (seenOf (.fcUnrecognized 0xFF) (frame1234 0x3F 0xFF 0x34)).map (fun r => r.neg) = some true := by
  decide

theorem witness_ConverterIgnoresTheFunctionCode :
    (seenOf .fcVoltage nine).isSome = true ∧
    (nextOf (exec .fcOhms { holding nine with params := timeoutBase.params,
                                              good := nine.set 5 0x33 })).isSome = true := by decide

theorem witness_JudgeMattersForTwoFunctions :
    (seenOf .fcOhms nine).isSome = true ∧
    (nextOf (exec .fcOhms { holding nine with good := nine.set 6 (nine[6] ^^^ 0x08) })).isSome = true ∧
    (seenOf .fcTemperature nine).isSome = true ∧ (seenOf .fcFreqRpm nine).isSome = true := by decide

theorem witness_StepsKeepSeenOutputsInRange :
    base.SeenInRange ∧
    (nextOf (step { holding nine with inputs := [.observe] })).map (fun t => t.seen.isSome) =
      some true :=
  ⟨fun r h => absurd (show none = some r from h) (by simp), by decide⟩

theorem witness_OverloadFormatsAsTheLiteral :
    (seenOf .fcVoltage (frame1234 0x30 0x3B 0x31)).map (fun r => r.overload) = some true := by decide

theorem witness_DisplayFollowsTheDisplayState :
    (holding nine).Inv ∧ (holding nine).dispState = .fresh ∧
    ({ holding nine with dispState := .stale } : State).Inv ∧
    base.Inv ∧ base.dispState = .noData ∧ ({ base with dispState := .noConn } : State).Inv := by
  refine ⟨?_, rfl, ?_, ?_, rfl, ?_⟩ <;> constructor <;> decide

theorem witness_StepsKeepTheRegisterRelations :
    ({ counted 9 with inputs := [.clock 0x20A] } : State).Inv ∧
    (nextOf (step { counted 9 with inputs := [.clock 0x20A] })).isSome = true := by
  refine ⟨?_, by decide⟩
  constructor <;> decide

theorem witness_CompletionsAreReadFrameResults :
    base.params.timeoutEndsFrame = false ∧ base.cnt = 0 ∧
    ∀ w ∈ ([0x231, 0x100, 0x20A, 0x400] : List EvWord), decodeEv w ≠ .reset := by decide

/-- Clauses: nine bytes, and not nine, with fewer than `MAX_LEN`. -/
theorem witness_NinePayloadBytesAreAccepted :
    base.cnt = 0 ∧ (∀ b ∈ nine.toList, b ≠ 0x0A) ∧ nine.toList.length < base.params.maxLen ∧
    nine.toList.length = 9 ∧ ([0x31] : List Byte).length ≠ 9 := by decide

theorem witness_LongRunsOverflow :
    base.cnt = 0 ∧ ∀ b ∈ List.replicate 11 (0x55 : Byte), b ≠ 0x0A := by decide

theorem witness_QuietLinesNeverComplete :
    base.params.timeoutEndsFrame = false ∧
    decodeEv 0x000 = .idle ∧ decodeEv 0x100 = .timeout ∧ decodeEv 0x231 = .data 0x31 ∧
    (counted 8).cnt.toNat + (([0x000, 0x100, 0x231] : List EvWord).filter fun w => w[9]).length <
      (counted 8).params.maxLen := by decide

theorem witness_TerminatorValueSplitsTheFrame :
    base.cnt = 0 ∧ (∀ b ∈ List.replicate 8 (0x31 : Byte), b ≠ 0x0A) ∧
    ([] : List Byte).length + (List.replicate 8 (0x31 : Byte)).length = 8 := by decide

theorem witness_UnreadBytesInfluenceNothing :
    Indistinguishable (counted 1) { counted 1 with acc := nine.set 8 0xFF, good := nine } := by
  refine ⟨rfl, rfl, ?_, by decide, rfl, rfl, rfl, rfl, rfl, rfl, rfl⟩
  intro i h hi
  have hzero : i = 0 := by
    have hone : (counted 1).cnt.toNat = 1 := rfl
    omega
  subst hzero
  rfl

/-- One ill-formed set for each clause, and a well-formed one at both ends of the range. -/
theorem witness_IllFormedParametersAreRefused :
    ({ testRaw with maxLen := 9 } : RawParams).maxLen < 10 ∧
    255 < ({ testRaw with maxLen := 256 } : RawParams).maxLen ∧
    0x40 ≤ (({ testOpen with adp3 := 0x40 } : OpenCodes).code .adp3).toNat ∧
    (({ testOpen with adp3 := 0x3B } : OpenCodes).code .adp3 =
      ({ testOpen with adp3 := 0x3B } : OpenCodes).code .voltage ∧ Func.adp3 ≠ .voltage) ∧
    (∀ f ∈ Func.all, (testRaw.openCodes.code f).toNat < 0x40) ∧
    (∀ f ∈ Func.all, ∀ g ∈ Func.all,
      testRaw.openCodes.code f = testRaw.openCodes.code g → f = g) := by decide

theorem witness_RegisteredPortsShowTheRegisters :
    (holding nine).hasGood = true ∧ base.hasGood = false := by decide

end Sys2Proof.Tests
end

section
/-! The family of 00_scope.md: the parameters are constants of elaboration (R10), and elaboration
takes exactly the well-formed sets (R6, R7, R246). -/

namespace Sys2Proof

theorem Func.all_nodup : Func.all.Nodup := by decide

/-- R7 as the obligations read it: no code occurs twice, and each is below 0x40. -/
theorem OpenCodes.wf_iff (o : OpenCodes) :
    o.wf = true ↔
      (∀ f g, o.code f = o.code g → f = g) ∧ ∀ f, (o.code f).toNat < 0x40 := by
  have hdistinct : o.table.Nodup ↔ ∀ f g, o.code f = o.code g → f = g := by
    rw [OpenCodes.table, List.nodup_map_iff_inj_on Func.all_nodup]
    exact ⟨fun h f g => h f f.mem_all g g.mem_all, fun h f _ g _ => h f g⟩
  have hbound : (o.table.all fun b => decide (b.toNat < 0x40)) = true ↔
      ∀ f, (o.code f).toNat < 0x40 := by
    simp [OpenCodes.table, Func.mem_all]
  rw [OpenCodes.wf, Bool.and_eq_true, decide_eq_true_iff, hdistinct, hbound]

namespace Machine

theorem fetch_params (s : State) : s.fetch.2.params = s.params := by
  rcases fetch_state s with h | h
  · rw [h]
  · rw [h, takeInput_params]

theorem exec_params {i : Instr} {s t : State} (h : exec i s = .next t) : t.params = s.params := by
  rcases event_or_function i with hevent | ⟨fid, hfid⟩
  · obtain ⟨-, rfl⟩ | ⟨-, rfl⟩ | ⟨-, rfl⟩ | ⟨-, rfl⟩ | ⟨b, -, -, rfl⟩ | ⟨b, -, -, rfl⟩ :=
      exec_event_cases hevent h
    all_goals simp
  · rw [exec_function s hfid, readAs_next_iff] at h
    obtain ⟨-, rfl⟩ := h
    rw [observe_params]

theorem elaborateParams_of_illFormed {r : RawParams}
    (h : ¬(r.openCodes.wf = true ∧ 10 ≤ r.maxLen ∧ r.maxLen ≤ 255)) :
    elaborateParams r = .refused .illFormedParams := by
  unfold elaborateParams
  split
  · next hcodes => exact dif_neg fun hlen => h ⟨hcodes, hlen⟩
  · rfl

theorem elaborateParams_of_wf {r : RawParams} (hcodes : r.openCodes.wf = true)
    (hlen : 10 ≤ r.maxLen ∧ r.maxLen ≤ 255) :
    elaborateParams r = .next
      { codes := ⟨r.openCodes, hcodes⟩, maxLen := r.maxLen, maxLenRange := hlen,
        diodeDp := r.diodeDp, ampDp := r.ampDp, currentPrefixSwap := r.currentPrefixSwap,
        timeoutEndsFrame := r.timeoutEndsFrame } := by
  rw [elaborateParams, dif_pos hcodes, dif_pos hlen]

/-- Settles O22: taking an input and each operation leave the parameters alone. -/
theorem stepsKeepTheParameters : Obligations.StepsKeepTheParameters := by
  intro s t h
  calc
    t.params = s.fetch.2.params := exec_params h
    _ = s.params := fetch_params s

/-- Settles O57: elaboration tests R7 and the range of R6, and each listed defect breaks one of
them. -/
theorem illFormedParametersAreRefused : Obligations.IllFormedParametersAreRefused := by
  intro r
  refine ⟨fun hbad => elaborateParams_of_illFormed ?_, fun hlow hhigh hbound hdistinct => ?_⟩
  · rintro ⟨hcodes, hlow, hhigh⟩
    obtain ⟨hdistinct, hbound⟩ := r.openCodes.wf_iff.mp hcodes
    obtain hshort | hlong | ⟨f, hlarge⟩ | ⟨f, g, hne, hsame⟩ := hbad
    · omega
    · omega
    · exact absurd (hbound f) (Nat.not_lt.mpr hlarge)
    · exact hne (hdistinct f g hsame)
  · have hcodes := r.openCodes.wf_iff.mpr ⟨hdistinct, hbound⟩
    exact ⟨_, elaborateParams_of_wf hcodes ⟨hlow, hhigh⟩, rfl, rfl, rfl, rfl, rfl, rfl⟩

end Machine
end Sys2Proof
end

section
/-! The family of 10_state.md: which operation a step runs (R20), who writes `has_good` (R28), the
invariant (R39), the reset values (R40), unwritten frames (R41) and the registered ports (R22). -/

namespace Sys2Proof.Machine

/-! ### The step -/

theorem takeInput_eq {s : State} {input : Input} {rest : List Input}
    (h : s.inputs = input :: rest) : s.takeInput = { s with inputs := rest } := by
  rw [State.takeInput, h, List.tail_cons]

/-- With no input left the lines are quiet, and the quiet EV word is an IDLE (R90; log 4). -/
theorem step_nil {s : State} (h : s.inputs = []) : step s = exec .idle s := by
  have hquiet : decodeEv 0 = .idle := by decide
  rw [step, fetch_nil h, hquiet]

theorem step_clock {s : State} {w : EvWord} {rest : List Input}
    (h : s.inputs = .clock w :: rest) :
    step s = exec (decodeEv w) { s with inputs := rest } := by
  rw [step, fetch_clock h, takeInput_eq h]

theorem step_observe {s : State} {rest : List Input} (h : s.inputs = .observe :: rest) :
    step s = exec (decodeFc s.params.codes s.good[5]) { s with inputs := rest } := by
  rw [step, fetch_observe h, takeInput_eq h, functionCode]

/-- Settles O5: one step equation for each form of the input list. -/
theorem stepRunsTheDecodedOperation : Obligations.StepRunsTheDecodedOperation :=
  fun _ => ⟨step_nil, fun _ _ => step_clock, fun _ => step_observe⟩

/-! ### Who writes `has_good` -/

/-- A completion sets `has_good` when it is valid, and otherwise keeps it. -/
theorem complete_hasGood_cases (k : CycleEnd) (n : Nat) (s : State) :
    (s.complete k n).hasGood = s.hasGood ∨
      ((s.complete k n).hasGood = true ∧ (s.complete k n).frameDone = true ∧
        (s.complete k n).frameStatus = .valid) := by
  by_cases hvalid : classify k n = .valid
  · exact .inr ⟨by rw [complete_hasGood, if_pos hvalid], rfl, hvalid⟩
  · exact .inl (by rw [complete_hasGood, if_neg hvalid])

/-- Everything an operation can do to `has_good` (R28). -/
theorem exec_hasGood_cases {i : Instr} {s t : State} (h : exec i s = .next t) :
    (i = .reset ∧ t.hasGood = false) ∨
      (i ≠ .reset ∧ t.hasGood = s.hasGood) ∨
      (i ≠ .reset ∧ i.isEvent = true ∧ t.hasGood = true ∧ t.frameDone = true ∧
        t.frameStatus = .valid) := by
  rcases event_or_function i with hevent | ⟨fid, hfid⟩
  · obtain ⟨rfl, rfl⟩ | ⟨hi, rfl⟩ | ⟨rfl, rfl⟩ | ⟨hi, rfl⟩ | ⟨b, rfl, -, rfl⟩ |
        ⟨b, rfl, -, rfl⟩ := exec_event_cases hevent h
    · simp
    · obtain rfl | ⟨rfl, -⟩ := hi <;> simp
    · simpa [Instr.isEvent] using complete_hasGood_cases .comms s.cnt.toNat s
    · obtain rfl | ⟨rfl, -⟩ := hi <;>
        simpa [Instr.isEvent] using complete_hasGood_cases .len s.cnt.toNat s
    · simp
    · simpa [Instr.isEvent] using complete_hasGood_cases .len s.params.maxLen (s.storeByte b)
  · rw [exec_function s hfid, readAs_next_iff] at h
    obtain ⟨-, rfl⟩ := h
    have hi : i ≠ .reset := by
      rintro rfl
      cases hfid
    exact .inr (.inl ⟨hi, rfl⟩)

/-- Settles O21: RESET clears `has_good`, and every other operation keeps it or completes a valid
cycle. -/
theorem onlyResetClearsHasGood : Obligations.OnlyResetClearsHasGood := by
  intro i s t h
  obtain ⟨rfl, hclear⟩ | ⟨hi, hkeep⟩ | ⟨hi, hevent, hset, hreport⟩ := exec_hasGood_cases h
  · simp [hclear]
  · simp +contextual [hi, hkeep]
  · simp [hi, hset, hevent, hreport]

/-! ### The invariant -/

/-- RESET establishes the invariant, whatever held before it. -/
theorem clear_inv (s : State) : s.clear.Inv := by
  constructor <;> simp

theorem classify_cases (k : CycleEnd) (n : Nat) :
    classify k n = .commsError ∨ (classify k n = .valid ∧ n = 9) ∨
      (classify k n = .framingError ∧ n ≠ 9) := by
  cases k with
  | comms => exact .inl rfl
  | len =>
    rw [classify_len]
    split <;> simp [*]

/-- A completion establishes the invariant, whatever held before it, when its count fits
`last_count`. -/
theorem complete_inv (k : CycleEnd) {n : Nat} (hn : n < 256) (s : State) :
    (s.complete k n).Inv := by
  rcases classify_cases k n with hcomms | ⟨hvalid, rfl⟩ | ⟨hframing, hne⟩
  · constructor <;> simp [hcomms, nextDisp]
  · constructor <;> simp [hvalid, nextDisp, complete_hasGood]
  · have hcount : (s.complete k n).lastCount ≠ 9 := fun h => hne <| by
      simpa [Nat.mod_eq_of_lt hn] using congrArg BitVec.toNat h
    constructor
    case framingCount => exact fun _ => hcount
    all_goals cases hgood : s.hasGood <;> simp [hframing, nextDisp, complete_hasGood, hgood]

theorem State.Inv.takeInput {s : State} (h : s.Inv) : s.takeInput.Inv := { h with }

theorem State.Inv.observe {s : State} (h : s.Inv) (r : Reading) : (s.observe r).Inv := { h with }

theorem State.Inv.endPulse {s : State} (h : s.Inv) : s.endPulse.Inv :=
  { h with doneHasStatus := by simp }

theorem State.Inv.storeByte {s : State} (h : s.Inv) (b : Byte) : (s.storeByte b).Inv := by
  rw [storeByte_eq]
  exact { h with }

/-- Counting a byte that does not fill the cycle keeps `cnt` below `MAX_LEN`; `MAX_LEN` is at most
255 (R6), so the 8-bit count does not wrap. -/
theorem State.Inv.advance {s : State} (h : s.Inv) (hroom : s.cnt.toNat + 1 ≠ s.params.maxLen) :
    s.advance.Inv where
  cntBelowMaxLen := by
    have hrange := s.params.maxLenRange
    have hbelow := h.cntBelowMaxLen
    rw [advance_cnt, advance_params]
    bv_omega
  doneHasStatus := by simp
  shownHasGood := h.shownHasGood
  noGoodNotShown := h.noGoodNotShown
  validCount := h.validCount
  framingCount := h.framingCount

theorem State.Inv.fetch {s : State} (h : s.Inv) : s.fetch.2.Inv := by
  rcases fetch_state s with hs | hs <;> rw [hs]
  · exact h
  · exact h.takeInput

theorem State.Inv.exec {i : Instr} {s t : State} (hs : s.Inv) (h : exec i s = .next t) :
    t.Inv := by
  rcases event_or_function i with hevent | ⟨fid, hfid⟩
  · obtain ⟨-, rfl⟩ | ⟨-, rfl⟩ | ⟨-, rfl⟩ | ⟨-, rfl⟩ | ⟨b, -, hroom, rfl⟩ | ⟨b, -, -, rfl⟩ :=
      exec_event_cases hevent h
    · exact clear_inv s
    · exact hs.endPulse
    · exact complete_inv .comms s.cnt.isLt s
    · exact complete_inv .len s.cnt.isLt s
    · exact (hs.storeByte b).advance (by simpa using hroom)
    · exact complete_inv .len (Nat.lt_succ_of_le s.params.maxLenRange.2) (s.storeByte b)
  · rw [exec_function s hfid, readAs_next_iff] at h
    obtain ⟨-, rfl⟩ := h
    exact hs.observe _

/-- Settles O49: taking an input and each operation keep R39; a completion and RESET establish
it. -/
theorem stepsKeepTheRegisterRelations : Obligations.StepsKeepTheRegisterRelations :=
  fun _ _ hs h => hs.fetch.exec h

/-! ### Reset -/

theorem exec_reset (s : State) : exec .reset s = .next s.clear := rfl

theorem reset_clear : State.reset.clear = State.reset := rfl

/-- Settles O11: `State.reset` is its own `clear`. -/
theorem stateAfterResetHasTheResetValues : Obligations.StateAfterResetHasTheResetValues := by
  refine ⟨rfl, rfl, rfl, rfl, rfl, rfl, ?_⟩
  rw [exec_reset, reset_clear]

/-- Settles O50: the reset values meet R39, and nothing has been read. -/
theorem registerRelationsAtReset : Obligations.RegisterRelationsAtReset := by
  refine ⟨reset_clear ▸ clear_inv State.reset, fun r hr => ?_⟩
  cases hr

/-! ### Unwritten frames and the registered ports -/

theorem readAs_of_unwritten (fid : FuncId) {s : State} (h : s.hasGood = false) :
    s.readAs fid = .fault .goodUnwritten := by
  simp [State.readAs, h]

theorem funcId_of_not_event {i : Instr} (h : i.isEvent = false) :
    ∃ fid, i.funcId? = some fid :=
  (event_or_function i).resolve_left (by simp [h])

/-- Settles O25: every function-code row is a read of the decoded outputs. -/
theorem unwrittenFrameCannotBeRead : Obligations.UnwrittenFrameCannotBeRead := by
  intro i s hi hgood
  obtain ⟨fid, hfid⟩ := funcId_of_not_event hi
  rw [exec_function s hfid, readAs_of_unwritten fid hgood]

/-- The table of R30, code 0 first. -/
theorem FrameStatus.code_eq_idxOf (f : FrameStatus) :
    f.code.toNat = [none, valid, framingError, commsError].idxOf f := by
  cases f <;> rfl

/-- The table of R32, code 0 first. -/
theorem DispState.code_eq_idxOf (d : DispState) :
    d.code.toNat = [noData, fresh, stale, noConn].idxOf d := by
  cases d <;> rfl

theorem goodByte_of_written {s : State} (h : s.hasGood = true) (i : Fin 9) :
    s.goodByte i = .next s.good[i] := by
  rw [State.goodByte, if_pos h]

theorem goodByte_of_unwritten {s : State} (h : s.hasGood = false) (i : Fin 9) :
    s.goodByte i = .fault .goodUnwritten := by
  simp [State.goodByte, h]

/-- Settles O58: each status port is its register's code, and `good` is shown once written. -/
theorem registeredPortsShowTheRegisters : Obligations.RegisteredPortsShowTheRegisters :=
  fun s => ⟨s.frameStatus.code_eq_idxOf, s.dispState.code_eq_idxOf, goodByte_of_written,
    goodByte_of_unwritten⟩

end Sys2Proof.Machine
end

section
/-! The family of 20_memory.md: who writes `acc` (R61), and what a read of the decoded outputs
leaves unchanged (R71). -/

namespace Sys2Proof.Machine

/-- A DATA leaves the `acc` of its byte store, whether or not it completes, and every other
operation keeps `acc` (R61). -/
theorem exec_acc_cases {i : Instr} {s t : State} (h : exec i s = .next t) :
    (∃ b, i = .data b ∧ t.acc = (s.storeByte b).acc) ∨
      ((∀ b, i ≠ .data b) ∧ t.acc = s.acc) := by
  rcases event_or_function i with hevent | ⟨fid, hfid⟩
  · obtain ⟨rfl, rfl⟩ | ⟨hi, rfl⟩ | ⟨rfl, rfl⟩ | ⟨hi, rfl⟩ | ⟨b, rfl, -, rfl⟩ |
        ⟨b, rfl, -, rfl⟩ := exec_event_cases hevent h
    · simp
    · obtain rfl | ⟨rfl, -⟩ := hi <;> simp
    · simp
    · obtain rfl | ⟨rfl, -⟩ := hi <;> simp
    · exact .inl ⟨b, rfl, advance_acc _⟩
    · exact .inl ⟨b, rfl, complete_acc _ _ _⟩
  · rw [exec_function s hfid, readAs_next_iff] at h
    obtain ⟨-, rfl⟩ := h
    refine .inr ⟨?_, observe_acc _ _⟩
    rintro b rfl
    cases hfid

/-- Settles O20: only DATA stores a byte, and the store writes position `cnt` alone. -/
theorem onlyDataWritesAcc : Obligations.OnlyDataWritesAcc := by
  intro i s t k hk h
  obtain ⟨b, rfl, hacc⟩ | ⟨hother, hacc⟩ := exec_acc_cases h
  · refine ⟨fun b' hb => ?_, fun hother => absurd rfl (hother b)⟩
    injection hb with hb
    subst hb
    simp only [hacc, storeByte_acc_getElem]
  · exact ⟨fun b hb => absurd hb (hother b), fun _ => by rw [hacc]⟩

theorem readAs_of_written (fid : FuncId) {s : State} (h : s.hasGood = true) :
    s.readAs fid = .next (s.observe (reading s.params fid s.good)) :=
  (readAs_next_iff fid s _).mpr ⟨h, rfl⟩

/-- Settles O24: every function-code row is a read of the decoded outputs, which only observes. -/
theorem readingChangesNoRegister : Obligations.ReadingChangesNoRegister := by
  intro i s hi hgood
  obtain ⟨fid, hfid⟩ := funcId_of_not_event hi
  refine ⟨reading s.params fid s.good, ?_⟩
  rw [exec_function s hfid, readAs_of_written fid hgood, State.observe]

end Sys2Proof.Machine
end

section
/-! The family of 30_encoding.md: the EV patterns (R90), decoding and encoding as inverses (R90, R94,
R161), the placed word (log 9), the listed words (R99) and the output codes (R91 to R93). -/

namespace Sys2Proof

open Machine

/-! ### The EV patterns -/

theorem EvWord.getElem_of_and_eq {w mask val : EvWord} (h : w &&& mask = val) (i : Fin 12)
    (hmask : mask[i] = true) : w[i] = val[i] := by
  subst h
  rw [Fin.getElem_fin] at hmask
  rw [Fin.getElem_fin, Fin.getElem_fin, BitVec.getElem_and, hmask, Bool.and_true]

theorem EvWord.rxData_of_and_eq {w mask val : EvWord} (h : w &&& mask = val)
    (hmask : mask.rxData = BitVec.allOnes 8) : w.rxData = val.rxData := by
  rw [EvWord.rxData] at hmask
  rw [← h, EvWord.rxData, EvWord.rxData, BitVec.extractLsb'_and, hmask, BitVec.and_allOnes]

theorem decodeEv_of_reset_pattern {w : EvWord} (h : w &&& 0x800 = 0x800) :
    decodeEv w = .reset := by
  have hrst : w[11] = true := EvWord.getElem_of_and_eq h 11 rfl
  simp [decodeEv, hrst]

theorem decodeEv_of_commsError_pattern {w : EvWord} (h : w &&& 0xC00 = 0x400) :
    decodeEv w = .commsError := by
  have hrst : w[11] = false := EvWord.getElem_of_and_eq h 11 rfl
  have herr : w[10] = true := EvWord.getElem_of_and_eq h 10 rfl
  simp [decodeEv, hrst, herr]

theorem decodeEv_of_term_pattern {w : EvWord} (h : w &&& 0xEFF = 0x20A) :
    decodeEv w = .term := by
  have hrst : w[11] = false := EvWord.getElem_of_and_eq h 11 rfl
  have herr : w[10] = false := EvWord.getElem_of_and_eq h 10 rfl
  have hvalid : w[9] = true := EvWord.getElem_of_and_eq h 9 rfl
  have hbyte : w.rxData = terminator := EvWord.rxData_of_and_eq h rfl
  simp [decodeEv, hrst, herr, hvalid, hbyte]

theorem decodeEv_of_data_pattern {w : EvWord} (h : w &&& 0xE00 = 0x200)
    (hbyte : w.rxData ≠ terminator) : decodeEv w = .data w.rxData := by
  have hrst : w[11] = false := EvWord.getElem_of_and_eq h 11 rfl
  have herr : w[10] = false := EvWord.getElem_of_and_eq h 10 rfl
  have hvalid : w[9] = true := EvWord.getElem_of_and_eq h 9 rfl
  simp [decodeEv, hrst, herr, hvalid, hbyte]

theorem decodeEv_of_timeout_pattern {w : EvWord} (h : w &&& 0xF00 = 0x100) :
    decodeEv w = .timeout := by
  have hrst : w[11] = false := EvWord.getElem_of_and_eq h 11 rfl
  have herr : w[10] = false := EvWord.getElem_of_and_eq h 10 rfl
  have hvalid : w[9] = false := EvWord.getElem_of_and_eq h 9 rfl
  have htmo : w[8] = true := EvWord.getElem_of_and_eq h 8 rfl
  simp [decodeEv, hrst, herr, hvalid, htmo]

theorem decodeEv_of_idle_pattern {w : EvWord} (h : w &&& 0xF00 = 0x000) :
    decodeEv w = .idle := by
  have hrst : w[11] = false := EvWord.getElem_of_and_eq h 11 rfl
  have herr : w[10] = false := EvWord.getElem_of_and_eq h 10 rfl
  have hvalid : w[9] = false := EvWord.getElem_of_and_eq h 9 rfl
  have htmo : w[8] = false := EvWord.getElem_of_and_eq h 8 rfl
  simp [decodeEv, hrst, herr, hvalid, htmo]

/-- Every EV word is one of the six events (R94). -/
theorem decodeEv_isEvent (w : EvWord) : (decodeEv w).isEvent = true := by
  unfold decodeEv
  split_ifs <;> rfl

/-- A decoded DATA byte is never the terminator (R95). -/
theorem decodeEv_wf (c : FuncCodes) (w : EvWord) : (decodeEv w).wf c = true := by
  unfold decodeEv
  split_ifs with _ _ hterm hvalid
  · rfl
  · rfl
  · rfl
  · simpa [Instr.wf, hvalid] using hterm
  · rfl
  · rfl

/-! ### The function-code rows -/

/-- Every function-code row is the row of its function id; only the unrecognized row has an
operand. -/
theorem Instr.eq_instr_of_funcId {i : Instr} {fid : FuncId} (h : i.funcId? = some fid) :
    ∃ b, i = fid.instr b := by
  cases i <;> simp only [Instr.funcId?, reduceCtorEq, Option.some.injEq] at h <;> subst h
  case fcUnrecognized b => exact ⟨b, rfl⟩
  all_goals exact ⟨0, rfl⟩

theorem FuncId.instr_known (f : Func) (b b' : Byte) :
    (known f).instr b = (known f).instr b' := by
  cases f <;> rfl

theorem encode_known (c : FuncCodes) (f : Func) (b : Byte) :
    encode c ((FuncId.known f).instr b) = .fc (c.code f) := by
  cases f <;> rfl

theorem encode_unrecognized (c : FuncCodes) (b : Byte) :
    encode c (FuncId.unrecognized.instr b) = .fc b := rfl

theorem known_instr_wf (c : FuncCodes) (f : Func) (b : Byte) :
    ((FuncId.known f).instr b).wf c = true := by
  cases f <;> rfl

/-- The operand of the unrecognized row equals no entry of the table (R162). -/
theorem unrecognized_instr_wf_iff (c : FuncCodes) (b : Byte) :
    (FuncId.unrecognized.instr b).wf c = true ↔ ∀ f, c.code f ≠ b := by
  simp [FuncId.instr, Instr.wf, Func.mem_all]

theorem decodeFc_code (c : FuncCodes) (f : Func) :
    decodeFc c (c.code f) = (FuncId.known f).instr (c.code f) := by
  rw [decodeFc, decodeFuncId_code]

theorem decodeFc_cases (c : FuncCodes) (b : Byte) :
    (∃ f, decodeFc c b = (FuncId.known f).instr b ∧ c.code f = b) ∨
      (decodeFc c b = FuncId.unrecognized.instr b ∧ ∀ f, c.code f ≠ b) := by
  obtain ⟨f, hf, hcode⟩ | ⟨hnone, hcode⟩ := decodeFuncId_cases c b
  · exact .inl ⟨f, by rw [decodeFc, hf], hcode⟩
  · exact .inr ⟨by rw [decodeFc, hnone], hcode⟩

theorem decodeFc_wf (c : FuncCodes) (b : Byte) : (decodeFc c b).wf c = true := by
  obtain ⟨f, hf, -⟩ | ⟨hnone, hcode⟩ := decodeFc_cases c b
  · rw [hf, known_instr_wf]
  · rw [hnone, unrecognized_instr_wf_iff]
    exact hcode

/-! ### Decoding and encoding -/

theorem encode_event (c : FuncCodes) {i : Instr} (h : i.isEvent = true) :
    ∃ w, encode c i = .ev w := by
  cases i <;> simp only [Instr.isEvent, Bool.false_eq_true] at h <;> exact ⟨_, rfl⟩

theorem encode_function (c : FuncCodes) {i : Instr} {fid : FuncId} (h : i.funcId? = some fid) :
    ∃ b, encode c i = .fc b := by
  obtain ⟨b, rfl⟩ := Instr.eq_instr_of_funcId h
  cases fid with
  | known f => exact ⟨_, encode_known c f b⟩
  | unrecognized => exact ⟨_, encode_unrecognized c b⟩

/-- The word of DATA has DATA's pattern, with the byte in `rx_data`. -/
theorem decodeEv_data_word {b : Byte} (h : b ≠ terminator) :
    decodeEv (0b0010#4 ++ b) = .data b := by
  have hrx : EvWord.rxData (0b0010#4 ++ b) = b := BitVec.extractLsb'_append_eq_right
  have hpattern : (0b0010#4 ++ b : EvWord) &&& 0xE00 = 0x200 := by
    obtain ⟨_, hrow, hbits⟩ := Laws.InRow.data b default
    obtain rfl := Option.some.inj hrow
    exact hbits
  rw [decodeEv_of_data_pattern hpattern (hrx.symm ▸ h), hrx]

theorem decode_encode_event (c : FuncCodes) {i : Instr} (hevent : i.isEvent = true)
    (hwf : i.wf c = true) : decode c (encode c i) = i := by
  cases i <;> simp only [Instr.isEvent, Bool.false_eq_true] at hevent
  case data b =>
    exact decodeEv_data_word (by simpa [Instr.wf] using hwf)
  case reset => exact decodeEv_of_reset_pattern rfl
  case commsError => exact decodeEv_of_commsError_pattern rfl
  case term => exact decodeEv_of_term_pattern rfl
  case timeout => exact decodeEv_of_timeout_pattern rfl
  case idle => exact decodeEv_of_idle_pattern rfl

theorem decode_encode_function (c : FuncCodes) {i : Instr} {fid : FuncId}
    (hfid : i.funcId? = some fid) (hwf : i.wf c = true) : decode c (encode c i) = i := by
  obtain ⟨b, rfl⟩ := Instr.eq_instr_of_funcId hfid
  cases fid with
  | known f => rw [encode_known, decode, decodeFc_code, FuncId.instr_known f _ b]
  | unrecognized =>
    rw [unrecognized_instr_wf_iff] at hwf
    rw [encode_unrecognized, decode, decodeFc, decodeFuncId_unrecognized c b hwf]

/-- Settles O2: an event's word has the event's pattern, a known function's byte is its entry of a
table without repetition, and an unrecognized byte is no entry. -/
theorem decodingInvertsEncoding : Obligations.DecodingInvertsEncoding := by
  intro c i hwf
  rcases event_or_function i with hevent | ⟨fid, hfid⟩
  · exact decode_encode_event c hevent hwf
  · exact decode_encode_function c hfid hwf

theorem decode_wf (c : FuncCodes) (code : Code) : (decode c code).wf c = true := by
  cases code with
  | ev w => exact decodeEv_wf c w
  | fc b => exact decodeFc_wf c b

theorem encode_decodeFc (c : FuncCodes) (b : Byte) : encode c (decodeFc c b) = .fc b := by
  obtain ⟨f, hf, hcode⟩ | ⟨hnone, -⟩ := decodeFc_cases c b
  · rw [hf, encode_known, hcode]
  · rw [hnone, encode_unrecognized]

/-- Settles O3: what is decoded is well-formed, so that its encoding decodes to it again. -/
theorem encodingInvertsDecoding : Obligations.EncodingInvertsDecoding := by
  intro c
  refine ⟨decode_wf c, encode_decodeFc c, fun w => ?_⟩
  obtain ⟨v, hv⟩ := encode_event c (decodeEv_isEvent w)
  have hround : decode c (encode c (decodeEv w)) = decodeEv w :=
    decodingInvertsEncoding c _ (decodeEv_wf c w)
  rw [hv] at hround
  exact ⟨v, hv, hround⟩

/-- Settles O4: the listed lines expand and decode by computation, and 0x3B is the Voltage entry of
every table (R7). -/
theorem scriptLinesHaveTheListedWords : Obligations.ScriptLinesHaveTheListedWords := by
  refine ⟨rfl, by decide, rfl, by decide, rfl, by decide, rfl, by decide, rfl, by decide, rfl,
    by decide, fun c => ?_⟩
  exact decodeFc_code c .voltage

namespace Machine

/-! ### The step -/

/-- Settles O1: a step on a clock runs the decoded word, and each pattern fixes the bits that the
priority decode looks at. -/
theorem eventPatternsSelectTheirEvent : Obligations.EventPatternsSelectTheirEvent := by
  intro s w rest hinputs
  rw [step_clock hinputs]
  refine ⟨fun h => ?_, fun h => ?_, fun h => ?_, fun ⟨h, hbyte⟩ => ?_, fun h => ?_, fun h => ?_⟩
  · rw [decodeEv_of_reset_pattern h]
  · rw [decodeEv_of_commsError_pattern h]
  · rw [decodeEv_of_term_pattern h]
  · rw [decodeEv_of_data_pattern h hbyte, EvWord.rxData]
  · rw [decodeEv_of_timeout_pattern h]
  · rw [decodeEv_of_idle_pattern h]

theorem step_placeCode_ev (s : State) (w : EvWord) :
    step (s.placeCode (.ev w)) = exec (decodeEv w) s := step_clock rfl

theorem step_placeCode_fc (s : State) (b : Byte) :
    step (s.placeCode (.fc b)) =
      exec (decodeFc s.params.codes b) { s with good := s.good.set 5 b, hasGood := true } := by
  have hbyte : (s.good.set 5 b)[5] = b := Vector.getElem_set_self _
  rw [step_observe (s := s.placeCode (.fc b)) rfl]
  simp only [State.placeCode, hbyte]

/-- Settles O6: a placed word is decoded by the next step, and decoding inverts encoding. -/
theorem placedWordIsTheNextOperation : Obligations.PlacedWordIsTheNextOperation := by
  intro s i hwf
  have hround := decodingInvertsEncoding s.params.codes i hwf
  refine ⟨fun hevent => ?_, fun hfunction => ?_⟩
  · obtain ⟨w, hw⟩ := encode_event s.params.codes hevent
    rw [hw] at hround ⊢
    rw [step_placeCode_ev, show decodeEv w = i from hround]
  · obtain ⟨fid, hfid⟩ := funcId_of_not_event hfunction
    obtain ⟨b, hb⟩ := encode_function s.params.codes hfid
    refine ⟨b, hb, ?_⟩
    rw [hb] at hround ⊢
    rw [step_placeCode_fc, show decodeFc s.params.codes b = i from hround]

/-! ### The output codes -/

theorem funcNumber_lt (f : Func) : (funcNumber f).toNat < 14 := by
  cases f <;> decide

theorem fidCode_ne_fourteen (fid : FuncId) : fidCode fid ≠ 14 := by
  cases fid with
  | known f =>
    have hlow := funcNumber_lt f
    rw [fidCode]
    bv_omega
  | unrecognized => decide

theorem funcKnown_iff (fid : FuncId) : funcKnown fid = true ↔ fidCode fid ≠ 15 := by
  cases fid with
  | known f =>
    have hlow := funcNumber_lt f
    refine iff_of_true rfl ?_
    rw [fidCode]
    bv_omega
  | unrecognized => decide

theorem Prefix.code_le (p : Prefix) : p.code.toNat ≤ 5 := by
  cases p <;> decide

theorem UnitName.code_le (u : UnitName) : u.code.toNat ≤ 8 := by
  cases u <;> decide

/-- R91, R168: a listed ROM entry and the default entry both hold a code of the table. -/
theorem prefixCode_eq (p : Params) (fid : FuncId) (g : Frame) :
    ∃ q : Prefix, prefixCode p fid g = q.code :=
  ⟨_, BitVec.extractLsb'_append_eq_right⟩

/-- R143: the four nibbles with their weights, which 15 bits hold without a carry out. -/
theorem mag_toNat (g : Frame) :
    (mag g).toNat = 1000 * (digit1 g).toNat + 100 * (digit2 g).toNat +
      10 * (digit3 g).toNat + (digit4 g).toNat := by
  unfold mag
  bv_omega

theorem mag_le (g : Frame) : (mag g).toNat ≤ 16665 := by
  have h := mag_toNat g
  bv_omega

/-- R145: the magnitude fits 16 signed bits, so `value` is it or its negation. -/
theorem value_toInt (g : Frame) :
    (value g).toInt = if neg g then -((mag g).toNat : Int) else (mag g).toNat := by
  have hbound := mag_le g
  have hmod : (mag g).toNat % 2 ^ 16 = (mag g).toNat := Nat.mod_eq_of_lt (by omega)
  unfold value
  split <;> rw [BitVec.toInt_eq_toNat_cond]
  · rw [BitVec.toNat_neg, BitVec.toNat_setWidth, hmod]
    split <;> omega
  · rw [BitVec.toNat_setWidth, hmod]
    split <;> omega

theorem reading_inRange (p : Params) (fid : FuncId) (g : Frame) :
    (reading p fid g).InRange where
  fidUsed := fidCode_ne_fourteen fid
  modeIsFid := rfl
  knownIffNotFifteen := funcKnown_iff fid
  prefixUsed := by
    obtain ⟨q, hq⟩ := prefixCode_eq p fid g
    rw [reading, hq]
    exact q.code_le
  unitUsed := (unitName fid (judge g)).code_le
  magBound := mag_le g
  valueBound := by
    rw [reading, value_toInt]
    split <;> simp

/-- An event keeps what a consumer holds, and a function-code row replaces it by a reading. -/
theorem exec_seen_cases {i : Instr} {s t : State} (h : exec i s = .next t) :
    t.seen = s.seen ∨ ∃ fid, t.seen = some (reading s.params fid s.good) := by
  rcases event_or_function i with hevent | ⟨fid, hfid⟩
  · left
    obtain ⟨-, rfl⟩ | ⟨-, rfl⟩ | ⟨-, rfl⟩ | ⟨-, rfl⟩ | ⟨b, -, -, rfl⟩ | ⟨b, -, -, rfl⟩ :=
      exec_event_cases hevent h
    all_goals simp
  · rw [exec_function s hfid, readAs_next_iff] at h
    obtain ⟨-, rfl⟩ := h
    exact .inr ⟨fid, observe_seen _ _⟩

theorem fetch_seen (s : State) : s.fetch.2.seen = s.seen := by
  rcases fetch_state s with h | h
  · rw [h]
  · rw [h, takeInput_seen]

/-- Settles O44: a step keeps what a consumer holds or replaces it by a reading, and every reading
of the machine is in range. -/
theorem stepsKeepSeenOutputsInRange : Obligations.StepsKeepSeenOutputsInRange := by
  intro s t hs hstep r hr
  obtain hkeep | ⟨fid, hread⟩ := exec_seen_cases hstep
  · exact hs r (by rw [← fetch_seen, ← hkeep, hr])
  · obtain rfl : reading _ fid _ = r := Option.some.inj (hread.symm.trans hr)
    exact reading_inRange _ fid _

end Machine
end Sys2Proof
end

section
/-! The family of 40_synchronizer.md: the events in full (R110 to R118), what a completion reports
(R115 to R117, R120), quiet lines (R122) and the source's frame reader (R119). -/

namespace Sys2Proof

/-- R6: `MAX_LEN` is never the payload length, so an overflow is never a valid cycle. -/
theorem Params.maxLen_ne_nine (p : Params) : p.maxLen ≠ 9 :=
  (Nat.lt_of_succ_le p.maxLenRange.1).ne'

theorem Params.maxLen_lt (p : Params) : p.maxLen < 256 := Nat.lt_succ_of_le p.maxLenRange.2

namespace Machine

/-! ### The events -/

theorem exec_idle (s : State) : exec .idle s = .next s.endPulse := rfl

theorem exec_commsError (s : State) :
    exec .commsError s = .next (s.complete .comms s.cnt.toNat) := rfl

theorem exec_term (s : State) : exec .term s = .next (s.complete .len s.cnt.toNat) := rfl

theorem exec_timeout_quiet {s : State} (h : s.params.timeoutEndsFrame = false) :
    exec .timeout s = .next s.endPulse := by
  simp [exec, execTimeout, h]

theorem exec_timeout_ending {s : State} (h : s.params.timeoutEndsFrame = true) :
    exec .timeout s = .next (s.complete .len s.cnt.toNat) := by
  simp [exec, execTimeout, h]

theorem exec_data_counted (b : Byte) {s : State} (h : s.cnt.toNat + 1 ≠ s.params.maxLen) :
    exec (.data b) s = .next (s.storeByte b).advance := if_neg h

theorem exec_data_overflow (b : Byte) {s : State} (h : s.cnt.toNat + 1 = s.params.maxLen) :
    exec (.data b) s = .next ((s.storeByte b).complete .len s.params.maxLen) := if_pos h

/-! ### The completion -/

theorem complete_comms (n : Nat) (s : State) :
    s.complete .comms n =
      { s with frameStatus := .commsError, dispState := .noConn, lastCount := BitVec.ofNat 8 n,
               cnt := 0, frameDone := true } := rfl

theorem complete_len_nine (s : State) :
    s.complete .len 9 =
      { s with good := s.acc, hasGood := true, frameStatus := .valid, dispState := .fresh,
               lastCount := 9, cnt := 0, frameDone := true } := rfl

theorem complete_len_of_ne_nine {n : Nat} (h : n ≠ 9) (s : State) :
    s.complete .len n =
      { s with frameStatus := .framingError,
               dispState := if s.hasGood = true then .stale else .noData,
               lastCount := BitVec.ofNat 8 n, cnt := 0, frameDone := true } := by
  simp [State.complete, State.endCycle, classify_len, h, nextDisp]

/-- R118 and the ending TIMEOUT of R113: a cycle of nine bytes is promoted. -/
theorem complete_len_cnt_nine {s : State} (h : s.cnt = 9) :
    s.complete .len s.cnt.toNat =
      { s with good := s.acc, hasGood := true, frameStatus := .valid, dispState := .fresh,
               lastCount := 9, cnt := 0, frameDone := true } := by
  rw [h]
  exact complete_len_nine s

/-- R118 and the ending TIMEOUT of R113: any other count is reported and keeps `good`. -/
theorem complete_len_cnt_of_ne_nine {s : State} (h : s.cnt ≠ 9) :
    s.complete .len s.cnt.toNat =
      { s with frameStatus := .framingError,
               dispState := if s.hasGood = true then .stale else .noData,
               lastCount := s.cnt, cnt := 0, frameDone := true } := by
  have hcount : s.cnt.toNat ≠ 9 := fun hnine => h (BitVec.eq_of_toNat_eq hnine)
  rw [complete_len_of_ne_nine hcount, BitVec.ofNat_toNat, BitVec.setWidth_eq]

/-- Settles O10: RESET answers the cleared state, which keeps `acc` and `good`. -/
theorem resetWritesItsRegisters : Obligations.ResetWritesItsRegisters := fun s => by
  rw [exec_reset, State.clear]

/-- Settles O12: IDLE answers the state with its pulse ended. -/
theorem idleOnlyEndsThePulse : Obligations.IdleOnlyEndsThePulse := fun s => by
  rw [exec_idle, State.endPulse]

/-- Settles O13: COMMS_ERROR completes the cycle with the count it finds. -/
theorem commsErrorDiscardsTheCycle : Obligations.CommsErrorDiscardsTheCycle := by
  intro s
  rw [exec_commsError, complete_comms, BitVec.ofNat_toNat, BitVec.setWidth_eq]

/-- Settles O14: a TIMEOUT ends the pulse only, or completes the cycle by its length. -/
theorem timeoutFollowsItsParameter : Obligations.TimeoutFollowsItsParameter := by
  refine fun s => ⟨fun hquiet => ?_, fun hends hnine => ?_, fun hends hne => ?_⟩
  · rw [exec_timeout_quiet hquiet, State.endPulse]
  · rw [exec_timeout_ending hends, complete_len_cnt_nine hnine]
  · rw [exec_timeout_ending hends, complete_len_cnt_of_ne_nine hne]

/-- Settles O16: TERM completes the cycle by its length. -/
theorem termAcceptsExactlyNineBytes : Obligations.TermAcceptsExactlyNineBytes := by
  refine fun s => ⟨fun hnine => ?_, fun hne => ?_⟩
  · rw [exec_term, complete_len_cnt_nine hnine]
  · rw [exec_term, complete_len_cnt_of_ne_nine hne]

/-- Settles O15: the `acc` of the byte store is the witness; a full cycle is no cycle of nine
bytes. -/
theorem dataStoresAndCounts : Obligations.DataStoresAndCounts := by
  intro s b
  refine ⟨(s.storeByte b).acc, storeByte_acc_getElem s b, fun hroom => ?_, fun hfull => ?_⟩
  · rw [exec_data_counted b hroom, State.advance, storeByte_cnt]
    conv_lhs => rw [storeByte_eq]
  · rw [exec_data_overflow b hfull, complete_len_of_ne_nine s.params.maxLen_ne_nine,
      storeByte_hasGood]
    conv_lhs => rw [storeByte_eq]

/-! ### What a completion reports -/

theorem classify_eq_valid_iff (k : CycleEnd) (n : Nat) :
    classify k n = .valid ↔ k = .len ∧ n = 9 := by
  cases k with
  | comms => simp
  | len => simp [classify_len]

/-- R117, by the status of the completion. -/
theorem complete_drives_dispState (k : CycleEnd) (n : Nat) (s : State) :
    ((s.complete k n).frameStatus = .commsError → (s.complete k n).dispState = .noConn) ∧
      ((s.complete k n).frameStatus = .valid → (s.complete k n).dispState = .fresh) ∧
      ((s.complete k n).frameStatus = .framingError → s.hasGood = true →
        (s.complete k n).dispState = .stale) ∧
      ((s.complete k n).frameStatus = .framingError → s.hasGood = false →
        (s.complete k n).dispState = .noData) ∧
      (s.complete k n).frameStatus ≠ .none := by
  rcases classify_cases k n with hstatus | ⟨hstatus, -⟩ | ⟨hstatus, -⟩ <;>
    simp +contextual [hstatus, nextDisp]

/-- Settles O17: an event that completes a cycle sets the display state of its status, and one that
does not keeps it, RESET apart. -/
theorem completionsDriveTheDisplayState : Obligations.CompletionsDriveTheDisplayState := by
  intro i s t hi h
  obtain ⟨rfl, rfl⟩ | ⟨-, rfl⟩ | ⟨-, rfl⟩ | ⟨-, rfl⟩ | ⟨b, -, -, rfl⟩ | ⟨b, -, -, rfl⟩ :=
    exec_event_cases hi h
  · simp
  · simp
  · exact ⟨fun _ => complete_drives_dispState _ _ s, by simp⟩
  · exact ⟨fun _ => complete_drives_dispState _ _ s, by simp⟩
  · simp
  · have hdisp := complete_drives_dispState .len s.params.maxLen (s.storeByte b)
    rw [storeByte_hasGood] at hdisp
    exact ⟨fun _ => hdisp, by simp⟩

theorem complete_lastCount_toNat (k : CycleEnd) {n : Nat} (hn : n < 256) (s : State) :
    (s.complete k n).lastCount.toNat = n := by
  rw [complete_lastCount, BitVec.toNat_ofNat, Nat.mod_eq_of_lt hn]

/-- Settles O18: COMMS_ERROR, TERM and an ending TIMEOUT report `cnt`, the overflowing byte reports
`MAX_LEN`, and the other events keep the report. -/
theorem completionsReportTheCount : Obligations.CompletionsReportTheCount := by
  intro i s t hi h
  obtain ⟨rfl, rfl⟩ | ⟨hcase, rfl⟩ | ⟨rfl, rfl⟩ | ⟨hcase, rfl⟩ | ⟨b, rfl, -, rfl⟩ |
      ⟨b, rfl, hfull, rfl⟩ := exec_event_cases hi h
  · simp
  · obtain rfl | ⟨rfl, -⟩ := hcase <;> simp
  · simp
  · obtain rfl | ⟨rfl, -⟩ := hcase <;> simp
  · simp
  · simp [hfull, s.params.maxLen_lt]

/-- A completion that changes `good` is a valid one by length, of nine bytes (R116). -/
theorem complete_good_ne {k : CycleEnd} {n : Nat} {s : State} (h : (s.complete k n).good ≠ s.good) :
    k = .len ∧ n = 9 := by
  rw [← classify_eq_valid_iff]
  by_contra hvalid
  exact h (by rw [complete_good, if_neg hvalid])

/-- Settles O19: only a completion writes `good`, and only a valid one by length; the overflowing
byte ends no such cycle. -/
theorem onlyPromotionWritesGood : Obligations.OnlyPromotionWritesGood := by
  intro i s t h hgood
  rcases event_or_function i with hevent | ⟨fid, hfid⟩
  · obtain ⟨-, rfl⟩ | ⟨-, rfl⟩ | ⟨-, rfl⟩ | ⟨hcase, rfl⟩ | ⟨b, -, -, rfl⟩ | ⟨b, -, -, rfl⟩ :=
      exec_event_cases hevent h
    · exact absurd (clear_good s) hgood
    · exact absurd (endPulse_good s) hgood
    · exact absurd (complete_good_ne hgood).1 nofun
    · obtain ⟨-, hnine⟩ := complete_good_ne hgood
      have hcnt : s.cnt = 9 := BitVec.eq_of_toNat_eq hnine
      rw [complete_len_cnt_nine hcnt]
      exact ⟨rfl, hcnt, rfl, rfl, rfl, rfl, hcase⟩
    · exact absurd (storeByte_good s b) hgood
    · rw [← storeByte_good s b] at hgood
      exact absurd (complete_good_ne hgood).2 s.params.maxLen_ne_nine
  · rw [exec_function s hfid, readAs_next_iff] at h
    obtain ⟨-, rfl⟩ := h
    exact absurd (observe_good _ _) hgood

/-! ### Runs of clocks -/

theorem clocks_cons_of_next {w : EvWord} {s t : State} (h : exec (decodeEv w) s = .next t)
    (ws : List EvWord) : clocks (w :: ws) s = clocks ws t := by
  rw [clocks, h]

theorem completions_cons_of_pulse {w : EvWord} {s t : State} (h : exec (decodeEv w) s = .next t)
    (hpulse : t.frameDone = true) (ws : List EvWord) :
    completions (w :: ws) s =
      (t.lastCount.toNat, t.frameStatus, t.goodCell) :: completions ws t := by
  simp [completions, h, hpulse]

theorem completions_cons_of_no_pulse {w : EvWord} {s t : State}
    (h : exec (decodeEv w) s = .next t) (hpulse : t.frameDone = false) (ws : List EvWord) :
    completions (w :: ws) s = completions ws t := by
  simp [completions, h, hpulse]

/-! ### Quiet lines -/

/-- From `s` to `t` no cycle completes and `n` payload bytes are counted. -/
structure CountsOnly (s t : State) (n : Nat) : Prop where
  params : t.params = s.params
  cnt : t.cnt.toNat = s.cnt.toNat + n
  frameStatus : t.frameStatus = s.frameStatus
  dispState : t.dispState = s.dispState
  good : t.good = s.good

theorem CountsOnly.refl (s : State) : CountsOnly s s 0 := ⟨rfl, rfl, rfl, rfl, rfl⟩

theorem CountsOnly.trans {s t u : State} {m n : Nat} (hst : CountsOnly s t m)
    (htu : CountsOnly t u n) : CountsOnly s u (m + n) where
  params := htu.params.trans hst.params
  cnt := by rw [htu.cnt, hst.cnt, Nat.add_assoc]
  frameStatus := htu.frameStatus.trans hst.frameStatus
  dispState := htu.dispState.trans hst.dispState
  good := htu.good.trans hst.good

theorem endPulse_countsOnly (s : State) : CountsOnly s s.endPulse 0 := ⟨rfl, rfl, rfl, rfl, rfl⟩

/-- `MAX_LEN` is at most 255 (R6), so the 8-bit count does not wrap below it. -/
theorem advance_cnt_toNat {s : State} (h : s.cnt.toNat + 1 < s.params.maxLen) :
    s.advance.cnt.toNat = s.cnt.toNat + 1 := by
  have hmax := s.params.maxLen_lt
  rw [advance_cnt]
  bv_omega

theorem storeByte_advance_countsOnly (b : Byte) {s : State}
    (h : s.cnt.toNat + 1 < s.params.maxLen) : CountsOnly s (s.storeByte b).advance 1 where
  params := storeByte_params s b
  cnt := by
    rw [advance_cnt_toNat (by simpa using h), storeByte_cnt]
  frameStatus := storeByte_frameStatus s b
  dispState := storeByte_dispState s b
  good := storeByte_good s b

/-- The events of a quiet line are the payload bytes, IDLE and TIMEOUT, and `rx_valid` marks the
bytes among them (R90). -/
theorem decodeEv_rxValid (w : EvWord) :
    (∀ b, decodeEv w = .data b → w[9] = true) ∧
      (decodeEv w = .idle ∨ decodeEv w = .timeout → w[9] = false) := by
  unfold decodeEv
  split_ifs <;> simp_all

/-- One clock of a quiet line with room for one more byte. -/
theorem exec_quiet {w : EvWord} {s : State} (hparam : s.params.timeoutEndsFrame = false)
    (hw : decodeEv w = .idle ∨ decodeEv w = .timeout ∨ ∃ b, decodeEv w = .data b)
    (hroom : s.cnt.toNat + (if w[9] then 1 else 0) < s.params.maxLen) :
    ∃ t, exec (decodeEv w) s = .next t ∧ t.frameDone = false ∧
      CountsOnly s t (if w[9] then 1 else 0) := by
  obtain ⟨hdata, hquiet⟩ := decodeEv_rxValid w
  rcases hw with hidle | htimeout | ⟨b, hbyte⟩
  · rw [hquiet (.inl hidle), hidle]
    exact ⟨_, exec_idle s, endPulse_frameDone s, endPulse_countsOnly s⟩
  · rw [hquiet (.inr htimeout), htimeout]
    exact ⟨_, exec_timeout_quiet hparam, endPulse_frameDone s, endPulse_countsOnly s⟩
  · rw [hdata b hbyte, if_pos rfl] at hroom
    rw [hdata b hbyte, hbyte]
    exact ⟨_, exec_data_counted b hroom.ne, advance_frameDone _,
      storeByte_advance_countsOnly b hroom⟩

theorem filter_rxValid_cons_length (w : EvWord) (ws : List EvWord) :
    ((w :: ws).filter fun w => w[9]).length =
      (if w[9] then 1 else 0) + (ws.filter fun w => w[9]).length := by
  cases hw : w[9]
  · simp [hw]
  · simp [hw, Nat.add_comm]

theorem quiet_run {ws : List EvWord} {s : State} (hparam : s.params.timeoutEndsFrame = false)
    (hws : ∀ w ∈ ws, decodeEv w = .idle ∨ decodeEv w = .timeout ∨ ∃ b, decodeEv w = .data b)
    (hroom : s.cnt.toNat + (ws.filter fun w => w[9]).length < s.params.maxLen) :
    completions ws s = [] ∧
      ∃ t, clocks ws s = .next t ∧ CountsOnly s t (ws.filter fun w => w[9]).length := by
  induction ws generalizing s with
  | nil => exact ⟨rfl, s, rfl, CountsOnly.refl s⟩
  | cons w ws ih =>
    rw [List.forall_mem_cons] at hws
    rw [filter_rxValid_cons_length] at hroom ⊢
    obtain ⟨t, hstep, hpulse, hst⟩ := exec_quiet hparam hws.1 (by omega)
    obtain ⟨hnone, u, hrun, htu⟩ := ih (s := t) (by rw [hst.params, hparam]) hws.2
      (by rw [hst.params, hst.cnt]; omega)
    refine ⟨?_, u, ?_, hst.trans htu⟩
    · rw [completions_cons_of_no_pulse hstep hpulse, hnone]
    · rw [clocks_cons_of_next hstep, hrun]

/-- Settles O54: by induction over the line, each quiet clock only counts. -/
theorem quietLinesNeverComplete : Obligations.QuietLinesNeverComplete := by
  intro s ws hparam hws hroom
  obtain ⟨hnone, t, hrun, hcount⟩ := quiet_run hparam hws hroom
  exact ⟨hnone, t, hrun, hcount.cnt, hcount.frameStatus, hcount.dispState, hcount.good⟩

/-! ### The source's frame reader -/

/-- The open cycle of `s` holds the bytes that a call of `read_frame` has read so far. -/
structure State.Holds (s : State) (got : List Byte) : Prop where
  count : s.cnt.toNat = got.length
  stored : ∀ (i : Nat) (h9 : i < 9) (hi : i < got.length), s.acc[i] = got[i]
  room : got.length < s.params.maxLen

theorem holds_nil {s : State} (h : s.cnt = 0) : s.Holds [] where
  count := by rw [h]; rfl
  stored := fun _ _ hi => absurd hi (Nat.not_lt_zero _)
  room := Nat.lt_of_lt_of_le (by simp) s.params.maxLenRange.1

theorem State.Holds.endPulse {s : State} {got : List Byte} (h : s.Holds got) :
    s.endPulse.Holds got := { h with }

theorem State.Holds.acc_toList {s : State} {got : List Byte} (h : s.Holds got)
    (hnine : got.length = 9) : s.acc.toList = got := by
  refine List.ext_getElem (by simp [hnine]) fun i hacc hi => ?_
  rw [Vector.getElem_toList, h.stored i (by omega) hi]

/-- A byte that does not fill the cycle is one more byte of it. -/
theorem State.Holds.counted {s : State} {got : List Byte} (h : s.Holds got) (b : Byte)
    (hroom : got.length + 1 < s.params.maxLen) : (s.storeByte b).advance.Holds (got ++ [b]) where
  count := by
    rw [← h.count] at hroom
    rw [(storeByte_advance_countsOnly b hroom).cnt, h.count, List.length_append,
      List.length_singleton]
  stored := by
    intro i h9 hi
    simp only [advance_acc, storeByte_acc_getElem, h.count]
    split
    · next hlast => simp [hlast]
    · next hlast =>
      have hold : i < got.length := by
        rw [List.length_append, List.length_singleton] at hi
        omega
      rw [h.stored i h9 hold, List.getElem_append_left hold]
  room := by simpa using hroom

theorem goodCell_congr {s t : State} (hhas : t.hasGood = s.hasGood) (hgood : t.good = s.good) :
    t.goodCell = s.goodCell := by
  rw [State.goodCell, State.goodCell, hhas, hgood]

theorem endPulse_goodCell (s : State) : s.endPulse.goodCell = s.goodCell := goodCell_congr rfl rfl

theorem advance_goodCell (s : State) : s.advance.goodCell = s.goodCell := goodCell_congr rfl rfl

theorem storeByte_goodCell (s : State) (b : Byte) : (s.storeByte b).goodCell = s.goodCell :=
  goodCell_congr (storeByte_hasGood s b) (storeByte_good s b)

/-- R116: a valid completion puts the bytes of the cycle in the cell, and any other keeps it. -/
theorem complete_goodCell (k : CycleEnd) (n : Nat) (s : State) :
    (s.complete k n).goodCell =
      if classify k n = .valid then some s.acc.toList else s.goodCell := by
  split
  · next hvalid =>
    rw [State.goodCell, complete_hasGood, complete_good, if_pos hvalid, if_pos hvalid]
  · next hvalid =>
    exact goodCell_congr (by rw [complete_hasGood, if_neg hvalid])
      (by rw [complete_good, if_neg hvalid])

/-- The clock of `i` from `s` to `t` completes nothing, and the call of `read_frame` that has read
`got` goes on with `got'`. -/
structure ReadContinues (i : Instr) (s t : State) (got got' : List Byte) : Prop where
  pulse : t.frameDone = false
  holds : t.Holds got'
  goodCell : t.goodCell = s.goodCell
  reads : ∀ rest, readFrame s.params.maxLen (lineItem i :: rest) got =
    readFrame s.params.maxLen rest got'

/-- The clock of `i` from `s` to `t` completes a cycle, and the call of `read_frame` that has read
`got` returns the classification and the bytes `got'` of that cycle. -/
structure ReadReturns (i : Instr) (s t : State) (got got' : List Byte) : Prop where
  pulse : t.frameDone = true
  cnt : t.cnt = 0
  lastCount : t.lastCount.toNat = got'.length
  goodCell : t.goodCell = if t.frameStatus = .valid then some got' else s.goodCell
  reads : ∀ rest, readFrame s.params.maxLen (lineItem i :: rest) got =
    some ⟨t.frameStatus, got', rest⟩

/-- A quiet clock: nothing is read. -/
theorem endPulse_readContinues {i : Instr} {s : State} {got : List Byte} (h : s.Holds got)
    (hi : lineItem i = .nothing) : ReadContinues i s s.endPulse got got where
  pulse := rfl
  holds := h.endPulse
  goodCell := endPulse_goodCell s
  reads := fun rest => by rw [hi, readFrame]

/-- The end of the cycle held in `s`: a read error, or the terminator. -/
theorem complete_readReturns {i : Instr} {k : CycleEnd} {s : State} {got : List Byte}
    (h : s.Holds got)
    (hreads : ∀ rest, readFrame s.params.maxLen (lineItem i :: rest) got =
      some ⟨classify k got.length, got, rest⟩) :
    ReadReturns i s (s.complete k got.length) got got where
  pulse := rfl
  cnt := rfl
  lastCount := complete_lastCount_toNat k (h.room.trans s.params.maxLen_lt) s
  goodCell := by
    rw [complete_goodCell, complete_frameStatus]
    split
    · next hvalid => rw [h.acc_toList ((classify_eq_valid_iff _ _).mp hvalid).2]
    · rfl
  reads := hreads

theorem storeByte_advance_readContinues {b : Byte} {s : State} {got : List Byte} (h : s.Holds got)
    (hb : b ≠ terminator) (hroom : got.length + 1 ≠ s.params.maxLen) :
    ReadContinues (.data b) s (s.storeByte b).advance got (got ++ [b]) where
  pulse := rfl
  holds := h.counted b (Nat.lt_of_le_of_ne h.room hroom)
  goodCell := by rw [advance_goodCell, storeByte_goodCell]
  reads := fun rest => by rw [lineItem, readFrame, if_neg hb, if_neg hroom]

/-- The overflowing byte: `MAX_LEN` bytes are no valid frame on either side. -/
theorem overflow_readReturns {b : Byte} {s : State} {got : List Byte} (hb : b ≠ terminator)
    (hfull : got.length + 1 = s.params.maxLen) :
    ReadReturns (.data b) s ((s.storeByte b).complete .len s.params.maxLen) got (got ++ [b]) where
  pulse := rfl
  cnt := rfl
  lastCount := by
    rw [complete_lastCount_toNat .len s.params.maxLen_lt, List.length_append,
      List.length_singleton, hfull]
  goodCell := by
    have hinvalid : classify .len s.params.maxLen ≠ .valid := fun hvalid =>
      s.params.maxLen_ne_nine ((classify_eq_valid_iff _ _).mp hvalid).2
    rw [complete_goodCell, complete_frameStatus, if_neg hinvalid, if_neg hinvalid,
      storeByte_goodCell]
  reads := fun rest => by
    rw [lineItem, readFrame, if_neg hb, if_pos hfull, hfull]
    rfl

/-- R119, one clock: the machine and the frame reader go on together or end the cycle together. -/
theorem exec_follows_readFrame {i : Instr} {s : State} {got : List Byte} (h : s.Holds got)
    (hevent : i.isEvent = true) (hreset : i ≠ .reset) (hdata : i ≠ .data terminator)
    (hparam : s.params.timeoutEndsFrame = false) :
    ∃ t got', exec i s = .next t ∧
      (ReadContinues i s t got got' ∨ ReadReturns i s t got got') := by
  cases i <;> simp only [Instr.isEvent, Bool.false_eq_true] at hevent
  case reset => exact absurd rfl hreset
  case commsError =>
    refine ⟨_, got, exec_commsError s, .inr ?_⟩
    rw [h.count]
    exact complete_readReturns h fun _ => rfl
  case term =>
    refine ⟨_, got, exec_term s, .inr ?_⟩
    rw [h.count]
    exact complete_readReturns h fun _ => rfl
  case timeout => exact ⟨_, got, exec_timeout_quiet hparam, .inl (endPulse_readContinues h rfl)⟩
  case idle => exact ⟨_, got, exec_idle s, .inl (endPulse_readContinues h rfl)⟩
  case data b =>
    have hb : b ≠ terminator := fun hterm => hdata (congrArg Instr.data hterm)
    by_cases hfull : got.length + 1 = s.params.maxLen
    · exact ⟨_, got ++ [b], exec_data_overflow b (by rw [h.count, hfull]),
        .inr (overflow_readReturns hb hfull)⟩
    · exact ⟨_, got ++ [b], exec_data_counted b (by rwa [h.count]),
        .inl (storeByte_advance_readContinues h hb hfull)⟩

/-- `readFrames` whose first call has already read `got`. -/
def readFramesFrom (maxLen : Nat) (got : List Byte) :
    (calls : Nat) → List LineItem → Option (List Byte) →
      List (Nat × FrameStatus × Option (List Byte))
  | 0, _, _ => []
  | calls + 1, line, good =>
    match readFrame maxLen line got with
    | none => []
    | some r =>
      let good' := if r.status = .valid then some r.bytes else good
      (r.bytes.length, r.status, good') :: readFrames maxLen calls r.rest good'

theorem readFramesFrom_nil (maxLen calls : Nat) (line : List LineItem)
    (good : Option (List Byte)) :
    readFramesFrom maxLen [] calls line good = readFrames maxLen calls line good := by
  cases calls <;> rfl

theorem readFramesFrom_no_line (maxLen calls : Nat) (got : List Byte)
    (good : Option (List Byte)) : readFramesFrom maxLen got calls [] good = [] := by
  cases calls <;> rfl

theorem readFramesFrom_congr {maxLen calls : Nat} {line line' : List LineItem}
    {got got' : List Byte} (h : readFrame maxLen line got = readFrame maxLen line' got')
    (good : Option (List Byte)) :
    readFramesFrom maxLen got calls line good = readFramesFrom maxLen got' calls line' good := by
  cases calls with
  | zero => rfl
  | succ calls => rw [readFramesFrom, readFramesFrom, h]

theorem readFramesFrom_succ {maxLen calls : Nat} {line : List LineItem} {got : List Byte}
    {good : Option (List Byte)} {r : FrameRead} (h : readFrame maxLen line got = some r) :
    readFramesFrom maxLen got (calls + 1) line good =
      (r.bytes.length, r.status, if r.status = .valid then some r.bytes else good) ::
        readFrames maxLen calls r.rest (if r.status = .valid then some r.bytes else good) := by
  rw [readFramesFrom, h]

/-- R119 inside a cycle: from a state that holds what the current call has read, one call for each
word is enough. -/
theorem completions_eq_readFramesFrom {ws : List EvWord} {s : State} {got : List Byte}
    {calls : Nat} (h : s.Holds got) (hparam : s.params.timeoutEndsFrame = false)
    (hws : ∀ w ∈ ws, decodeEv w ≠ .reset) (hcalls : ws.length ≤ calls) :
    completions ws s = readFramesFrom s.params.maxLen got calls
      (ws.map fun w => lineItem (decodeEv w)) s.goodCell := by
  induction ws generalizing s got calls with
  | nil => rw [List.map_nil, readFramesFrom_no_line, completions]
  | cons w ws ih =>
    rw [List.forall_mem_cons] at hws
    obtain ⟨hreset, hws⟩ := hws
    have hdata : decodeEv w ≠ .data terminator := fun hterm => by
      simpa [hterm, Instr.wf] using decodeEv_wf s.params.codes w
    obtain ⟨t, got', hstep, hcase⟩ :=
      exec_follows_readFrame h (decodeEv_isEvent w) hreset hdata hparam
    have hparams : t.params = s.params := exec_params hstep
    rw [← hparams] at hparam
    rw [List.map_cons]
    obtain hgoes | hends := hcase
    · rw [completions_cons_of_no_pulse hstep hgoes.pulse, readFramesFrom_congr (hgoes.reads _),
        ← hgoes.goodCell, ← hparams]
      exact ih hgoes.holds hparam hws ((Nat.le_succ _).trans hcalls)
    · cases calls with
      | zero => exact absurd hcalls (Nat.not_succ_le_zero _)
      | succ calls =>
        rw [completions_cons_of_pulse hstep hends.pulse, readFramesFrom_succ (hends.reads _),
          hends.lastCount, ← hends.goodCell, ← hparams, ← readFramesFrom_nil]
        exact congrArg _ (ih (holds_nil hends.cnt) hparam hws (Nat.le_of_succ_le_succ hcalls))

/-- Settles O51: at the start of a cycle the reader has read nothing, and from there the machine
follows it clock by clock. -/
theorem completionsAreReadFrameResults : Obligations.CompletionsAreReadFrameResults := by
  intro s ws hparam hcnt hws
  rw [completions_eq_readFramesFrom (holds_nil hcnt) hparam hws le_rfl, readFramesFrom_nil]

end Machine
end Sys2Proof
end

section
/-! The family of 41_converter.md: the magnitude and the signed value (R143, R145), the fields of the
frame (R140 to R142, R147), and what the converter does not depend on (R148). -/

namespace Sys2Proof.Machine

/-- What a consumer holds after a function-code row is that row's reading of `good`. -/
theorem seen_eq_reading {i : Instr} {s t : State} {r : Reading} (hi : i.isEvent = false)
    (h : exec i s = .next t) (hr : t.seen = some r) :
    ∃ fid, r = reading s.params fid s.good := by
  obtain ⟨fid, hfid⟩ := funcId_of_not_event hi
  rw [exec_function s hfid, readAs_next_iff] at h
  obtain ⟨-, rfl⟩ := h
  exact ⟨fid, (Option.some.inj hr).symm⟩

/-! ### The fields of the frame -/

/-- Bits 7:4 do not reach a nibble port (R140, R141). -/
theorem nibble_toNat (b : Byte) : (nibble b).toNat = b.toNat % 16 := by
  rw [nibble, BitVec.extractLsb'_toNat, Nat.shiftRight_zero]

/-- Settles O41: five nibbles, four flag bits and two whole bytes. -/
theorem fieldsOfTheFrame : Obligations.FieldsOfTheFrame := by
  intro i s t r hi h hr
  obtain ⟨fid, rfl⟩ := seen_eq_reading hi h hr
  have hflag : ∀ k (hk : k < 8), s.good[6][k] = s.good[6].toNat.testBit k :=
    BitVec.getElem_eq_testBit_toNat s.good[6]
  exact ⟨nibble_toNat _, nibble_toNat _, nibble_toNat _, nibble_toNat _, nibble_toNat _,
    hflag 0 _, hflag 1 _, hflag 2 _, hflag 3 _, rfl, rfl⟩

/-! ### The magnitude and the signed value -/

/-- R143 in the bits of the frame. -/
theorem mag_toNat_eq_bytes (g : Frame) :
    (mag g).toNat = g[1].toNat % 16 * 1000 + g[2].toNat % 16 * 100 + g[3].toNat % 16 * 10 +
      g[4].toNat % 16 := by
  rw [mag_toNat, digit1, digit2, digit3, digit4, nibble_toNat, nibble_toNat, nibble_toNat,
    nibble_toNat]
  omega

/-- Settles O40: the weights of the four nibbles, and the sign by NegativeSign. -/
theorem magnitudeAndSignedValue : Obligations.MagnitudeAndSignedValue := by
  intro i s t r hi h hr
  obtain ⟨fid, rfl⟩ := seen_eq_reading hi h hr
  have hneg : neg s.good = s.good[6].toNat.testBit 2 :=
    BitVec.getElem_eq_testBit_toNat s.good[6] 2 _
  exact ⟨mag_toNat_eq_bytes s.good, hneg ▸ value_toInt s.good⟩

/-! ### Independence of byte 5, the row and the parameters -/

/-- R148: on frames that agree outside byte 5, two readings differ at most in the function outputs,
which are those of the row, the range ROM and the unit table. -/
theorem reading_eq_of_eq_outside_functionCode {g g' : Frame}
    (hframe : ∀ k (hk : k < 9), k ≠ 5 → g'[k] = g[k]) (p p' : Params) (fid fid' : FuncId) :
    reading p' fid' g' =
      { reading p fid g with
        fid := fidCode fid', funcKnown := funcKnown fid', modeId := modeId fid',
        dp := dp p' fid' g', prefixCode := prefixCode p' fid' g',
        unitCode := unitCode fid' g' } := by
  have hneg : neg g' = neg g := by simp [neg, hframe]
  have hmag : mag g' = mag g := by simp [mag, digit1, digit2, digit3, digit4, hframe]
  have hvalue : value g' = value g := by rw [value, value, hneg, hmag]
  simp [reading, hneg, hmag, hvalue, rng, digit1, digit2, digit3, digit4, overload, lowbat, judge,
    opt1, opt2, hframe]

/-- Settles O42: replacing byte 5 leaves the other bytes, so every converter output agrees. -/
theorem converterIgnoresTheFunctionCode : Obligations.ConverterIgnoresTheFunctionCode := by
  intro i j s t u p b r q hi hj h hr h' hq
  obtain ⟨fid, rfl⟩ := seen_eq_reading hi h hr
  obtain ⟨fid', rfl⟩ := seen_eq_reading hj h' hq
  have hframe : ∀ k (hk : k < 9), k ≠ 5 → (s.good.set 5 b)[k] = s.good[k] :=
    fun k hk hne => Vector.getElem_set_ne _ hk hne.symm
  rw [reading_eq_of_eq_outside_functionCode hframe s.params p fid fid']
  exact ⟨rfl, rfl, rfl, rfl, rfl, rfl, rfl, rfl, rfl, rfl, rfl, rfl, rfl⟩

end Sys2Proof.Machine
end

section
/-! The family of 42_lookup_rom.md: the function lookup (R161, R173), the range ROM (R164 to R168),
the row and the unit of every function-code row (R163, R169 to R171), and what Judge matters for
(R172). -/

namespace Sys2Proof.Machine

/-! ### The function lookup -/

/-- A read of the outputs shows the decode of `good`, and changes nothing else (R71, R149). -/
theorem step_observe_written {s : State} {rest : List Input} (hgood : s.hasGood = true)
    (h : s.inputs = .observe :: rest) :
    step s = .next { s with inputs := rest, seen := some (decodeFrame s.params s.good) } := by
  rw [step_observe h, decodeFc, exec_function _ (instr_funcId _ _)]
  exact readAs_of_written _ hgood

/-- The table of R160 numbers the functions by their places. -/
theorem funcAll_getElem?_funcNumber (f : Func) : Func.all[(funcNumber f).toNat]? = some f := by
  cases f <;> rfl

theorem funcNumber_eq_of_getElem? {k : Nat} {f : Func} (h : Func.all[k]? = some f) :
    (funcNumber f).toNat = k :=
  (List.getElem?_inj (funcNumber_lt f) Func.all_nodup).mp
    ((funcAll_getElem?_funcNumber f).trans h.symm)

theorem funcNumber_injective : Function.Injective funcNumber := by
  intro f g h
  have hplace := funcAll_getElem?_funcNumber f
  rw [h, funcAll_getElem?_funcNumber] at hplace
  exact (Option.some.inj hplace).symm

/-- Settles O7: the lookup finds the entry of a table without repetition, and the function's number
is its place. -/
theorem functionCodeIsFoundInTheTable : Obligations.FunctionCodeIsFoundInTheTable := by
  intro s rest hgood hinputs
  refine ⟨_, step_observe_written hgood hinputs, fun k f hk hcode => ?_, fun hnone => ?_⟩
  · rw [decodeFrame, functionCode, hcode, decodeFuncId_code]
    exact ⟨funcNumber_eq_of_getElem? hk, rfl⟩
  · rw [decodeFrame, functionCode, decodeFuncId_unrecognized _ _ fun f => (hnone f).symm]
    exact ⟨rfl, rfl⟩

/-! ### The range ROM -/

/-- The decimal places and the prefix that a ROM row holds for a range nibble; 0 places and no
prefix where it lists none (R168). -/
def romCell (p : Params) (row : BitVec 4) (n : Nat) : Nat × Prefix :=
  (romRow p row).getD n (0, .none)

theorem rom_eq (p : Params) (a : BitVec 8) :
    rom p a = romEntry (romCell p (a.extractLsb' 4 4) (a.extractLsb' 0 4).toNat) := rfl

theorem rom_append (p : Params) (row n : BitVec 4) :
    rom p (row ++ n) = romEntry (romCell p row n.toNat) := by
  rw [rom_eq, BitVec.extractLsb'_append_eq_left, BitVec.extractLsb'_append_eq_right]

@[simp] theorem romEntry_places (e : Nat × Prefix) :
    (romEntry e).extractLsb' 3 2 = BitVec.ofNat 2 e.1 :=
  BitVec.extractLsb'_append_eq_left

@[simp] theorem romEntry_prefix (e : Nat × Prefix) : (romEntry e).extractLsb' 0 3 = e.2.code :=
  BitVec.extractLsb'_append_eq_right

/-- The clamp of R166 changes no 2-bit field. -/
theorem ofNat_clampPlaces (x : BitVec 2) : BitVec.ofNat 2 (clampPlaces x.toNat) = x := by
  revert x
  decide

theorem dp_eq_romCell (p : Params) (fid : FuncId) (g : Frame) :
    dp p fid g = BitVec.ofNat 2 (romCell p (tsel fid (judge g)) (rng g).toNat).1 := by
  rw [dp, ofNat_clampPlaces, romAddress, rom_append, romEntry_places]

theorem prefixCode_eq_romCell (p : Params) (fid : FuncId) (g : Frame) :
    prefixCode p fid g = (romCell p (tsel fid (judge g)) (rng g).toNat).2.code := by
  rw [prefixCode, romAddress, rom_append, romEntry_prefix]

/-- The fixed row 3 (R165, R167). -/
theorem romCell_amp (p : Params) (n : BitVec 4) : romCell p 3 n.toNat = (p.ampDp.places, .none) :=
  List.getD_replicate _ n.isLt

/-- The fixed row 6 (R165, R167). -/
theorem romCell_diode (p : Params) (n : BitVec 4) :
    romCell p 6 n.toNat = (p.diodeDp.places, .none) :=
  List.getD_replicate _ n.isLt

theorem ampDp_places_eq (d : AmpDp) : d.places = if d = .two then 2 else 0 := by
  cases d <;> rfl

theorem diodeDp_places_eq (d : DiodeDp) : d.places = if d = .three then 3 else 1 := by
  cases d <;> rfl

/-! ### The high bits of byte 5 -/

theorem le_toNat_of_high_bit {b : Byte} (h : b[7] = true ∨ b[6] = true) : 0x40 ≤ b.toNat := by
  rw [BitVec.getElem_eq_testBit_toNat, BitVec.getElem_eq_testBit_toNat] at h
  rcases h with h | h
  · exact le_trans (by decide) (Nat.ge_two_pow_of_testBit h)
  · exact Nat.ge_two_pow_of_testBit h

theorem decodeFuncId_of_high {c : FuncCodes} {b : Byte} (h : 0x40 ≤ b.toNat) :
    decodeFuncId c b = .unrecognized := by
  refine decodeFuncId_unrecognized c b fun f hf => ?_
  have hlow := c.code_lt f
  rw [hf] at hlow
  omega

/-- Row 15, the row of an unrecognized function, lists nothing (R162, R168). -/
theorem dp_unrecognized (p : Params) (g : Frame) : dp p .unrecognized g = 0 :=
  dp_eq_romCell p .unrecognized g

theorem prefixCode_unrecognized (p : Params) (g : Frame) : prefixCode p .unrecognized g = 0 :=
  prefixCode_eq_romCell p .unrecognized g

/-- Settles O8: every entry is below 0x40 (R7), so the byte equals none, and the unrecognized row
lists nothing. -/
theorem highBitsOfByteFiveAreUnrecognized : Obligations.HighBitsOfByteFiveAreUnrecognized := by
  intro s rest hgood hinputs hbits
  refine ⟨_, step_observe_written hgood hinputs, ?_⟩
  rw [decodeFrame, functionCode, decodeFuncId_of_high (le_toNat_of_high_bit hbits)]
  exact ⟨rfl, rfl, rfl, dp_unrecognized _ _, prefixCode_unrecognized _ _, rfl⟩

/-! ### The function-code rows -/

/-- A ROM entry as the statements write it: the two output numbers. -/
def entryCodes (e : Nat × Prefix) : Nat × Nat := (e.1 % 4, e.2.code.toNat)

theorem dp_prefixCode_toNat (p : Params) (fid : FuncId) (g : Frame) :
    ((dp p fid g).toNat, (prefixCode p fid g).toNat) =
      ((romRow p (tsel fid (judge g))).map entryCodes).getD (rng g).toNat (0, 0) := by
  rw [dp_eq_romCell, prefixCode_eq_romCell, BitVec.toNat_ofNat]
  exact (List.getD_map _ _ entryCodes).symm

/-- R171: a function-code row reads its function's number as `fid` and as `mode_id`, its column of
the ROM row that `tsel` selects, and its unit. -/
theorem readsFunction_of_row {i : Instr} (fid : FuncId)
    {row : Params → Bool → List (Nat × Nat)} {unit : Bool → Nat} (hfid : i.funcId? = some fid)
    (hrow : ∀ p j, (romRow p (tsel fid j)).map entryCodes = row p j)
    (hunit : ∀ j, (unitName fid j).code.toNat = unit j) :
    ReadsFunction i (fidCode fid).toNat (funcKnown fid) row unit := by
  intro s hgood
  have hjudge : judge s.good = s.good[6].toNat.testBit 3 :=
    BitVec.getElem_eq_testBit_toNat s.good[6] 3 _
  have hrng : (rng s.good).toNat = s.good[0].toNat % 16 := nibble_toNat _
  refine ⟨reading s.params fid s.good, ?_, rfl, rfl, rfl, ?_, ?_⟩
  · rw [exec_function s hfid, readAs_of_written fid hgood, State.observe]
  · rw [← hjudge, ← hrng, ← hrow]
    exact dp_prefixCode_toNat s.params fid s.good
  · rw [← hjudge, ← hunit]
    rfl

/-- A row of default entries reads as a row that lists nothing. -/
theorem ReadsFunction.of_defaults {i : Instr} {fid k : Nat} {known : Bool} {unit : Bool → Nat}
    (h : ReadsFunction i fid known (fun _ _ => List.replicate k (0, 0)) unit) :
    ReadsFunction i fid known (fun _ _ => []) unit := by
  have hdefault : ∀ n, (List.replicate k ((0, 0) : Nat × Nat)).getD n (0, 0) = (0, 0) := by
    intro n
    rw [List.getD_eq_getElem?_getD, List.getElem?_replicate]
    split <;> rfl
  intro s hgood
  obtain ⟨r, hexec, hfid, hknown, hmode, hcell, hunit⟩ := h s hgood
  exact ⟨r, hexec, hfid, hknown, hmode, hcell.trans (hdefault _), hunit⟩

/-- Settles O26: row 0 and unit V. -/
theorem voltageReadsRowZero : Obligations.VoltageReadsRowZero :=
  readsFunction_of_row (.known .voltage) rfl (fun _ _ => rfl) fun _ => rfl

/-- Settles O27: the prefix of row 1 by `CURRENT_PREFIX_SWAP`. -/
theorem currentMicroampReadsRowOne : Obligations.CurrentMicroampReadsRowOne := by
  refine readsFunction_of_row (.known .currentUa) rfl (fun p _ => ?_) fun _ => rfl
  change [(1, (microAmpPrefix p).code.toNat), (0, (microAmpPrefix p).code.toNat)] = _
  rw [microAmpPrefix]
  split <;> rfl

/-- Settles O28: the prefix of row 2 by `CURRENT_PREFIX_SWAP`. -/
theorem currentMilliampReadsRowTwo : Obligations.CurrentMilliampReadsRowTwo := by
  refine readsFunction_of_row (.known .currentMa) rfl (fun p _ => ?_) fun _ => rfl
  change [(2, (milliAmpPrefix p).code.toNat), (1, (milliAmpPrefix p).code.toNat)] = _
  rw [milliAmpPrefix]
  split <;> rfl

/-- Settles O29: the places of row 3 by `AMP_DP`. -/
theorem currentAmpReadsRowThree : Obligations.CurrentAmpReadsRowThree := by
  refine readsFunction_of_row (.known .currentA) rfl (fun p _ => ?_) fun _ => rfl
  change List.replicate 16 (p.ampDp.places % 4, 0) = _
  rw [ampDp_places_eq]
  split <;> rfl

/-- Settles O30: row 4 and unit OHM. -/
theorem ohmsReadsRowFour : Obligations.OhmsReadsRowFour :=
  readsFunction_of_row (.known .ohms) rfl (fun _ _ => rfl) fun _ => rfl

/-- Settles O31: the fixed row 5 and unit OHM. -/
theorem continuityReadsRowFive : Obligations.ContinuityReadsRowFive :=
  readsFunction_of_row (.known .continuity) rfl (fun _ _ => rfl) fun _ => rfl

/-- Settles O32: the places of row 6 by `DIODE_DP`. -/
theorem diodeReadsRowSix : Obligations.DiodeReadsRowSix := by
  refine readsFunction_of_row (.known .diode) rfl (fun p _ => ?_) fun _ => rfl
  change List.replicate 16 (p.diodeDp.places % 4, 0) = _
  rw [diodeDp_places_eq]
  split <;> rfl

/-- Settles O33: Judge selects row 7 or row 14 (R163), and the unit. -/
theorem frequencyReadsTheRowJudgeSelects : Obligations.FrequencyReadsTheRowJudgeSelects := by
  refine readsFunction_of_row (.known .freqRpm) rfl (fun _ j => ?_) fun j => ?_ <;>
    cases j <;> rfl

/-- Settles O34: row 8 and unit F. -/
theorem capacitanceReadsRowEight : Obligations.CapacitanceReadsRowEight :=
  readsFunction_of_row (.known .capacitance) rfl (fun _ _ => rfl) fun _ => rfl

/-- Settles O35: row 9 is fixed at the default entry, and Judge selects the unit. -/
theorem temperatureUnitFollowsJudge : Obligations.TemperatureUnitFollowsJudge := by
  refine ReadsFunction.of_defaults
    (readsFunction_of_row (.known .temperature) (row := fun _ _ => List.replicate 16 (0, 0)) rfl
      (fun _ _ => rfl) fun j => ?_)
  cases j <;> rfl

/-- Settles O36: rows 10 to 13 list nothing. -/
theorem adapterCodesReadTheDefaults : Obligations.AdapterCodesReadTheDefaults :=
  ⟨readsFunction_of_row (.known .adp0) rfl (fun _ _ => rfl) fun _ => rfl,
    readsFunction_of_row (.known .adp1) rfl (fun _ _ => rfl) fun _ => rfl,
    readsFunction_of_row (.known .adp2) rfl (fun _ _ => rfl) fun _ => rfl,
    readsFunction_of_row (.known .adp3) rfl (fun _ _ => rfl) fun _ => rfl⟩

/-- Settles O37: row 15 lists nothing, whatever the byte. -/
theorem unrecognizedCodeReadsTheDefaults : Obligations.UnrecognizedCodeReadsTheDefaults :=
  fun _ => readsFunction_of_row .unrecognized rfl (fun _ _ => rfl) fun _ => rfl

/-! ### The words of the ROM -/

theorem address_row_toNat (a : BitVec 8) : (a.extractLsb' 4 4).toNat = a.toNat / 16 := by
  rw [BitVec.extractLsb'_toNat, Nat.shiftRight_eq_div_pow]
  have hlt := a.isLt
  omega

theorem address_nibble_toNat (a : BitVec 8) : (a.extractLsb' 0 4).toNat = a.toNat % 16 :=
  nibble_toNat a

/-- R10, R167: of a parameter set, the ROM reads the three variant parameters only. -/
theorem romCell_congr {p d : Params} (hdiode : p.diodeDp = d.diodeDp) (hamp : p.ampDp = d.ampDp)
    (hswap : p.currentPrefixSwap = d.currentPrefixSwap) : romCell p = romCell d := by
  funext row n
  simp only [romCell, romRow, microAmpPrefix, milliAmpPrefix, hdiode, hamp, hswap]

/-- R165, row by row: the 16 words of each row of the ROM with the default parameters. -/
theorem romWords_row (row : BitVec 4) :
    (romWords.drop (16 * row.toNat)).take 16 =
      (List.range 16).map fun n => (romEntry (romCell Config.params row n)).toNat := by
  revert row
  decide

theorem romWords_getElem? (row n : BitVec 4) :
    romWords[16 * row.toNat + n.toNat]? =
      some (romEntry (romCell Config.params row n.toNat)).toNat := by
  rw [← List.getElem?_drop, ← List.getElem?_take_of_lt n.isLt, romWords_row, List.getElem?_map,
    List.getElem?_range n.isLt, Option.map_some]

/-- Settles O38: the word at an address is the entry of its row and nibble. -/
theorem rangeRomHoldsTheListedWords : Obligations.RangeRomHoldsTheListedWords := by
  intro p a hdiode hamp hswap
  have haddress : 16 * (a.extractLsb' 4 4).toNat + (a.extractLsb' 0 4).toNat = a.toNat := by
    rw [address_row_toNat, address_nibble_toNat, Nat.div_add_mod]
  rw [rom_eq, romCell_congr (d := Config.params) hdiode hamp hswap, ← romWords_getElem?, haddress]

/-! ### The variant parameters -/

/-- Only the fixed rows 3 and 6 have places that depend on a parameter (R167). -/
theorem romRow_places_eq (p d : Params) {row : BitVec 4} (hamp : row ≠ 3) (hdiode : row ≠ 6) :
    (romRow p row).map Prod.fst = (romRow d row).map Prod.fst := by
  fun_cases romRow p row
  case case4 h => exact absurd (BitVec.eq_of_toNat_eq h) hamp
  case case7 h => exact absurd (BitVec.eq_of_toNat_eq h) hdiode
  all_goals simp [romRow, *]

theorem romCell_places_eq (p d : Params) {row : BitVec 4} (hamp : row ≠ 3) (hdiode : row ≠ 6)
    (n : Nat) : (romCell p row n).1 = (romCell d row n).1 := by
  rw [romCell, romCell, ← List.getD_map _ _ Prod.fst, ← List.getD_map _ _ Prod.fst,
    romRow_places_eq p d hamp hdiode]

/-- Only rows 1 and 2 have prefixes that depend on a parameter (R167). -/
theorem romRow_prefix_eq {p d : Params} {row : BitVec 4}
    (h : row = 1 ∨ row = 2 → p.currentPrefixSwap = d.currentPrefixSwap) :
    (romRow p row).map Prod.snd = (romRow d row).map Prod.snd := by
  fun_cases romRow p row
  case case2 hrow =>
    simp [romRow, hrow, microAmpPrefix, h (.inl (BitVec.eq_of_toNat_eq hrow))]
  case case3 hrow =>
    simp [romRow, hrow, milliAmpPrefix, h (.inr (BitVec.eq_of_toNat_eq hrow))]
  all_goals simp [romRow, *]

theorem romCell_prefix_eq {p d : Params} {row : BitVec 4}
    (h : row = 1 ∨ row = 2 → p.currentPrefixSwap = d.currentPrefixSwap) (n : Nat) :
    (romCell p row n).2 = (romCell d row n).2 := by
  rw [romCell, romCell, ← List.getD_map _ _ Prod.snd, ← List.getD_map _ _ Prod.snd,
    romRow_prefix_eq h]

theorem romCell_microAmp (p : Params) (n : Nat) :
    (romCell p 1 n).2 = if n < 2 then microAmpPrefix p else .none := by
  match n with
  | 0 | 1 | _ + 2 => rfl

theorem romCell_milliAmp (p : Params) (n : Nat) :
    (romCell p 2 n).2 = if n < 2 then milliAmpPrefix p else .none := by
  match n with
  | 0 | 1 | _ + 2 => rfl

theorem address_microAmp_iff (a : BitVec 8) :
    (a = 0x10 ∨ a = 0x11) ↔ a.extractLsb' 4 4 = 1 ∧ (a.extractLsb' 0 4).toNat < 2 := by
  have hrow := address_row_toNat a
  rw [address_nibble_toNat]
  bv_omega

theorem address_milliAmp_iff (a : BitVec 8) :
    (a = 0x20 ∨ a = 0x21) ↔ a.extractLsb' 4 4 = 2 ∧ (a.extractLsb' 0 4).toNat < 2 := by
  have hrow := address_row_toNat a
  rw [address_nibble_toNat]
  bv_omega

/-- R167 on the places. -/
theorem romCell_places (p d : Params) (row n : BitVec 4) :
    BitVec.ofNat 2 (romCell p row n.toNat).1 =
      if row = 6 then (if p.diodeDp = .three then 3 else 1)
      else if row = 3 then (if p.ampDp = .two then 2 else 0)
      else BitVec.ofNat 2 (romCell d row n.toNat).1 := by
  split
  case isTrue hdiode =>
    rw [hdiode, romCell_diode, diodeDp_places_eq, apply_ite (BitVec.ofNat 2)]
    rfl
  case isFalse hdiode =>
    split
    case isTrue hamp =>
      rw [hamp, romCell_amp, ampDp_places_eq, apply_ite (BitVec.ofNat 2)]
      rfl
    case isFalse hamp => rw [romCell_places_eq p d hamp hdiode]

/-- R167 on the prefixes: a swap exchanges µ and m in the two entries of rows 1 and 2. -/
theorem romCell_prefix_swap {p d : Params} (hp : p.currentPrefixSwap = true)
    (row : BitVec 4) (n : Nat) :
    (romCell p row n).2 =
      if row = 1 ∧ n < 2 then .milli
      else if row = 2 ∧ n < 2 then .micro
      else (romCell d row n).2 := by
  split_ifs with hmicro hmilli
  · rw [hmicro.1, romCell_microAmp, if_pos hmicro.2, microAmpPrefix, if_pos hp]
  · rw [hmilli.1, romCell_milliAmp, if_pos hmilli.2, milliAmpPrefix, if_pos hp]
  · by_cases hrow : row = 1 ∨ row = 2
    · obtain rfl | rfl := hrow
      · have hn : ¬n < 2 := fun hn => hmicro ⟨rfl, hn⟩
        rw [romCell_microAmp, romCell_microAmp, if_neg hn, if_neg hn]
      · have hn : ¬n < 2 := fun hn => hmilli ⟨rfl, hn⟩
        rw [romCell_milliAmp, romCell_milliAmp, if_neg hn, if_neg hn]
    · exact romCell_prefix_eq (fun h => absurd h hrow) n

/-- Settles O39: the fixed rows 6 and 3 have the places of their parameters, and the swap exchanges
the two current prefixes. -/
theorem variantParametersChangeTheirRows : Obligations.VariantParametersChangeTheirRows := by
  intro p d a _ _ hd
  simp only [rom_eq, romEntry_places, romEntry_prefix, address_microAmp_iff,
    address_milliAmp_iff]
  refine ⟨romCell_places p d _ _, ?_⟩
  cases hp : p.currentPrefixSwap with
  | true =>
    rw [romCell_prefix_swap (d := d) hp, apply_ite Prefix.code, apply_ite Prefix.code]
    simp only [true_and]
    rfl
  | false =>
    rw [romCell_prefix_eq fun _ => hp.trans hd.symm]
    simp only [Bool.false_eq_true, false_and, if_false]

/-! ### Judge -/

/-- The frame with its Judge bit flipped. -/
def flipJudge (g : Frame) : Frame := g.set 6 (g[6] ^^^ 0x08)

theorem flipJudge_getElem_of_ne (g : Frame) {k : Nat} (hk : k < 9) (h : k ≠ 6) :
    (flipJudge g)[k] = g[k] :=
  Vector.getElem_set_ne _ hk h.symm

theorem flipJudge_status (g : Frame) : (flipJudge g)[6] = g[6] ^^^ 0x08 :=
  Vector.getElem_set_self _

@[simp] theorem judge_flipJudge (g : Frame) : judge (flipJudge g) = !judge g := by
  simp [judge, flipJudge_status]

/-- Judge is no operand of the converter: beside its own flag it reaches the outputs through `tsel`
and the unit table only. -/
theorem reading_flipJudge (p : Params) (fid : FuncId) (g : Frame) :
    reading p fid (flipJudge g) =
      { reading p fid g with
        judge := !judge g, dp := dp p fid (flipJudge g),
        prefixCode := prefixCode p fid (flipJudge g),
        unitCode := (unitName fid (!judge g)).code } := by
  have hneg : neg (flipJudge g) = neg g := by simp [neg, flipJudge_status]
  have hmag : mag (flipJudge g) = mag g := by
    simp [mag, digit1, digit2, digit3, digit4, flipJudge_getElem_of_ne]
  have hvalue : value (flipJudge g) = value g := by rw [value, value, hneg, hmag]
  simp [reading, hneg, hmag, hvalue, rng, digit1, digit2, digit3, digit4, overload, lowbat,
    unitCode, opt1, opt2, flipJudge_getElem_of_ne, flipJudge_status]

/-- R163: the row of every function but Frequency/RPM is its number. -/
theorem tsel_of_ne {fid : FuncId} (h : fid ≠ .known .freqRpm) (j : Bool) :
    tsel fid j = fidCode fid := by
  refine if_neg fun ⟨hcode, _⟩ => ?_
  cases fid with
  | known f => exact h (congrArg _ (funcNumber_injective (a₂ := .freqRpm) hcode))
  | unrecognized => cases hcode

/-- R169: the unit of every function but Frequency/RPM and Temperature is fixed. -/
theorem unitName_of_ne {fid : FuncId} (hfreq : fid ≠ .known .freqRpm)
    (htemp : fid ≠ .known .temperature) (j j' : Bool) : unitName fid j = unitName fid j' := by
  cases fid with
  | known f =>
    cases f
    case freqRpm => exact absurd rfl hfreq
    case temperature => exact absurd rfl htemp
    all_goals rfl
  | unrecognized => rfl

theorem unitName_temperature_not (j : Bool) :
    (unitName (.known .temperature) (!j)).code = if j = true then 8 else 7 := by
  cases j <;> rfl

theorem unitName_freqRpm_not (j : Bool) :
    (unitName (.known .freqRpm) (!j)).code = if j = true then 4 else 5 := by
  cases j <;> rfl

theorem rng_flipJudge (g : Frame) : rng (flipJudge g) = rng g := by
  rw [rng, flipJudge_getElem_of_ne g _ (by decide), rng]

theorem dp_flipJudge (p : Params) {fid : FuncId} (h : fid ≠ .known .freqRpm) (g : Frame) :
    dp p fid (flipJudge g) = dp p fid g := by
  rw [dp_eq_romCell, dp_eq_romCell, tsel_of_ne h, tsel_of_ne h, rng_flipJudge]

theorem prefixCode_flipJudge (p : Params) {fid : FuncId} (h : fid ≠ .known .freqRpm)
    (g : Frame) : prefixCode p fid (flipJudge g) = prefixCode p fid g := by
  rw [prefixCode_eq_romCell, prefixCode_eq_romCell, tsel_of_ne h, tsel_of_ne h, rng_flipJudge]

theorem reading_flipJudge_of_ne (p : Params) {fid : FuncId} (h : fid ≠ .known .freqRpm)
    (g : Frame) :
    reading p fid (flipJudge g) =
      { reading p fid g with
        judge := !judge g, unitCode := (unitName fid (!judge g)).code } := by
  rw [reading_flipJudge, dp_flipJudge p h, prefixCode_flipJudge p h]
  rfl

/-- What a consumer holds after a function-code row, with the row's own function. -/
theorem seen_eq_reading_of_funcId {i : Instr} {fid : FuncId} {s t : State} {r : Reading}
    (hfid : i.funcId? = some fid) (h : exec i s = .next t) (hr : t.seen = some r) :
    r = reading s.params fid s.good := by
  rw [exec_function s hfid, readAs_next_iff] at h
  obtain ⟨-, rfl⟩ := h
  exact (Option.some.inj hr).symm

/-- Settles O43: both reads are of the same row, and Judge reaches a reading through `tsel` for
Frequency/RPM and through the unit table for Frequency/RPM and Temperature. -/
theorem judgeMattersForTwoFunctions : Obligations.JudgeMattersForTwoFunctions := by
  intro i s t u r q hi h hr h' hq
  obtain ⟨fid, hfid⟩ := funcId_of_not_event hi
  obtain rfl := seen_eq_reading_of_funcId hfid h hr
  obtain rfl : q = reading s.params fid (flipJudge s.good) :=
    seen_eq_reading_of_funcId hfid h' hq
  refine ⟨fun hfreq htemp => ?_, ?_, ?_⟩
  · obtain ⟨b, rfl⟩ := Instr.eq_instr_of_funcId hfid
    have hfreq' : fid ≠ .known .freqRpm := by
      rintro rfl
      exact hfreq rfl
    have htemp' : fid ≠ .known .temperature := by
      rintro rfl
      exact htemp rfl
    rw [reading_flipJudge_of_ne _ hfreq', unitName_of_ne hfreq' htemp' _ (judge s.good)]
    rfl
  · rintro rfl
    obtain rfl := Option.some.inj hfid
    rw [reading_flipJudge_of_ne _ (by decide), unitName_temperature_not]
    rfl
  · rintro rfl
    obtain rfl := Option.some.inj hfid
    rw [reading_flipJudge, unitName_freqRpm_not]
    rfl

end Sys2Proof.Machine
end

section
/-! The family of 43_formatter.md: the overload text (R191), the number text (R193), the text of
every reading the machine makes (R192, R194), the display (R197) and the UTF-8 bytes (R196). -/

namespace Sys2Proof.Machine

/-! ### Overload -/

theorem format_of_overload {r : Reading} (h : r.overload = true) :
    format r = .next ['O', '.', 'L', '.'] := by
  rw [format, if_pos h]

/-- Settles O45: overload is tested before anything else. -/
theorem overloadFormatsAsTheLiteral : Obligations.OverloadFormatsAsTheLiteral :=
  fun _ => format_of_overload

/-! ### Decimal digits -/

theorem digitChar_isDigit {d : Nat} (h : d < 10) : (digitChar d).isDigit = true := by
  interval_cases d <;> rfl

theorem digitChar_toNat {d : Nat} (h : d < 10) : (digitChar d).toNat = 0x30 + d := by
  interval_cases d <;> rfl

theorem digitChar_eq_zero_iff {d : Nat} (h : d < 10) : digitChar d = '0' ↔ d = 0 := by
  interval_cases d <;> decide

theorem digitsValue_nil : digitsValue [] = 0 := rfl

/-- A digit at the end multiplies the value of the text before it by ten. -/
theorem digitsValue_append_digitChar (text : List Char) {d : Nat} (h : d < 10) :
    digitsValue (text ++ [digitChar d]) = 10 * digitsValue text + d := by
  rw [digitsValue, List.filter_append, List.filter_singleton, digitChar_isDigit h, cond_true,
    List.foldl_append, List.foldl_cons, List.foldl_nil, digitChar_toNat h, Nat.add_sub_cancel_left,
    digitsValue]

/-! ### The integer part -/

/-- With fuel above the number, the digits end by the quotient reaching one digit, never by running
out of fuel. -/
theorem decDigits_induction {motive : Nat → List Char → Prop}
    (digit : ∀ d < 10, motive d [digitChar d])
    (append : ∀ n text, 10 ≤ n → motive (n / 10) text → motive n (text ++ [digitChar (n % 10)])) :
    ∀ fuel n, n < fuel → motive n (decDigits fuel n) := by
  intro fuel
  induction fuel with
  | zero => exact fun n hn => absurd hn (Nat.not_lt_zero n)
  | succ fuel ih =>
    intro n hn
    rw [decDigits]
    split
    · next hsmall => exact digit n hsmall
    · next hlarge => exact append n _ (Nat.le_of_not_lt hlarge) (ih _ (by omega))

/-- Induction along the digits of `dec n`. -/
theorem dec_induction {motive : Nat → List Char → Prop}
    (digit : ∀ d < 10, motive d [digitChar d])
    (append : ∀ n text, 10 ≤ n → motive (n / 10) text → motive n (text ++ [digitChar (n % 10)]))
    (n : Nat) : motive n (dec n) :=
  decDigits_induction digit append (n + 1) n n.lt_succ_self

theorem dec_isDigit (n : Nat) : ∀ c ∈ dec n, c.isDigit = true := by
  refine dec_induction (motive := fun _ text => ∀ c ∈ text, c.isDigit = true) ?_ ?_ n
  · intro d hd
    simpa using digitChar_isDigit hd
  · intro n text _ ih
    have hlast : (digitChar (n % 10)).isDigit = true := digitChar_isDigit (n.mod_lt (by decide))
    simpa [or_imp, forall_and, hlast] using ih

theorem digitsValue_dec (n : Nat) : digitsValue (dec n) = n := by
  refine dec_induction (motive := fun n text => digitsValue text = n) ?_ ?_ n
  · intro d hd
    simpa [digitsValue_nil] using digitsValue_append_digitChar [] hd
  · intro n text _ ih
    rw [digitsValue_append_digitChar text (n.mod_lt (by decide)), ih, Nat.div_add_mod]

/-- `dec n` has a first digit, which is 0 for the number 0 only. -/
theorem dec_eq_cons (n : Nat) : ∃ first rest, dec n = first :: rest ∧ (first = '0' → n = 0) := by
  refine dec_induction
    (motive := fun n text => ∃ first rest, text = first :: rest ∧ (first = '0' → n = 0)) ?_ ?_ n
  · exact fun d hd => ⟨_, [], rfl, (digitChar_eq_zero_iff hd).mp⟩
  · rintro n _ hn ⟨first, rest, rfl, hfirst⟩
    exact ⟨first, rest ++ [digitChar (n % 10)], rfl, fun h => by have := hfirst h; omega⟩

theorem dec_ne_nil (n : Nat) : dec n ≠ [] := by
  obtain ⟨first, rest, hdec, -⟩ := dec_eq_cons n
  simp [hdec]

theorem dec_zero : dec 0 = ['0'] := rfl

theorem dec_eq_of_head_zero {n : Nat} (h : (dec n).head? = some '0') : dec n = ['0'] := by
  obtain ⟨first, rest, hdec, hfirst⟩ := dec_eq_cons n
  rw [hdec] at h
  rw [hfirst (Option.some.inj h), dec_zero]

/-! ### The fractional part -/

theorem decPadded_length (n k : Nat) : (decPadded n k).length = k := by
  induction k generalizing n with
  | zero => rfl
  | succ k ih => rw [decPadded, List.length_append, ih, List.length_singleton]

theorem decPadded_isDigit (n k : Nat) : ∀ c ∈ decPadded n k, c.isDigit = true := by
  induction k generalizing n with
  | zero => simp [decPadded]
  | succ k ih =>
    have hlast : (digitChar (n % 10)).isDigit = true := digitChar_isDigit (n.mod_lt (by decide))
    simpa [decPadded, or_imp, forall_and, hlast] using ih (n / 10)

theorem digitsValue_decPadded (n k : Nat) : digitsValue (decPadded n k) = n % 10 ^ k := by
  induction k generalizing n with
  | zero => rw [decPadded, digitsValue_nil, Nat.pow_zero, Nat.mod_one]
  | succ k ih =>
    rw [decPadded, digitsValue_append_digitChar _ (n.mod_lt (by decide)), ih, Nat.pow_succ',
      Nat.mod_mul, Nat.add_comm]

/-! ### The number text -/

theorem numberText_zero (m : Nat) : numberText m 0 = dec m := rfl

theorem numberText_of_ne_zero (m : Nat) {places : Nat} (h : places ≠ 0) :
    numberText m places =
      dec (m / 10 ^ places) ++ ['.'] ++ decPadded (m % 10 ^ places) places :=
  if_neg h

/-- Without places there is no fraction, and the integer part is the whole number. -/
theorem numberText_eq (m places : Nat) :
    numberText m places =
      if places = 0 then dec (m / 10 ^ places)
      else dec (m / 10 ^ places) ++ ['.'] ++ decPadded (m % 10 ^ places) places := by
  split
  · next h => rw [h, numberText_zero, Nat.pow_zero, Nat.div_one]
  · next h => exact numberText_of_ne_zero m h

/-- Settles O46: the integer part is `dec` of the quotient, and the fraction `decPadded` of the
remainder. -/
theorem numberTextIsExact : Obligations.NumberTextIsExact := by
  intro m places
  refine ⟨dec (m / 10 ^ places), decPadded (m % 10 ^ places) places, numberText_eq m places, ?_,
    digitsValue_dec _, dec_ne_nil _, dec_eq_of_head_zero, decPadded_length _ _, ?_⟩
  · intro c hc
    exact (List.mem_append.mp hc).elim (dec_isDigit _ c) (decPadded_isDigit _ _ c)
  · rw [digitsValue_decPadded, Nat.mod_mod]

/-! ### UTF-8 -/

theorem utf8Char_of_ascii {c : Char} (h : c.toNat < 0x80) :
    utf8Char c = [BitVec.ofNat 8 c.toNat] :=
  if_pos h

theorem utf8_of_ascii {text : List Char} (h : ∀ c ∈ text, c.toNat < 0x80) :
    utf8 text = text.map fun c => BitVec.ofNat 8 c.toNat := by
  rw [utf8, List.map_eq_flatMap]
  exact List.flatMap_congr fun c hc => utf8Char_of_ascii (h c hc)

theorem Prefix.text_ascii {p : Prefix} (h : p ≠ .micro) : ∀ c ∈ p.text, c.toNat < 0x80 := by
  cases p
  case micro => exact absurd rfl h
  all_goals simp [Prefix.text]

theorem UnitName.text_ascii {u : UnitName} (hohm : u ≠ .ohm) (hdegC : u ≠ .degC)
    (hdegF : u ≠ .degF) : ∀ c ∈ u.text, c.toNat < 0x80 := by
  cases u
  case ohm => exact absurd rfl hohm
  case degC => exact absurd rfl hdegC
  case degF => exact absurd rfl hdegF
  all_goals simp [UnitName.text]

theorem toNat_lt_of_isDigit {c : Char} (h : c.isDigit = true) : c.toNat < 0x80 := by
  simp only [Char.isDigit, Bool.and_eq_true, decide_eq_true_eq] at h
  exact lt_of_le_of_lt (UInt32.le_iff_toNat_le.mp h.2) (by decide)

/-- A number is written with digits and at most a point. -/
theorem numberText_ascii (m places : Nat) : ∀ c ∈ numberText m places, c.toNat < 0x80 := by
  have hwhole : ∀ c ∈ dec (m / 10 ^ places), c.toNat < 0x80 :=
    fun c hc => toNat_lt_of_isDigit (dec_isDigit _ c hc)
  have hfrac : ∀ c ∈ decPadded (m % 10 ^ places) places, c.toNat < 0x80 :=
    fun c hc => toNat_lt_of_isDigit (decPadded_isDigit _ _ c hc)
  rw [numberText_eq]
  split
  · exact hwhole
  · simpa [or_imp, forall_and] using ⟨hwhole, hfrac⟩

/-- Settles O59: the four texts outside ASCII are computed, and every other text is ASCII. -/
theorem textsAreUtf8 : Obligations.TextsAreUtf8 :=
  ⟨by decide, by decide, by decide, by decide, fun _ h => utf8_of_ascii (Prefix.text_ascii h),
    fun _ hohm hdegC hdegF => utf8_of_ascii (UnitName.text_ascii hohm hdegC hdegF),
    fun m places => utf8_of_ascii (numberText_ascii m places)⟩

/-! ### The readings of the machine -/

@[simp] theorem prefixOfCode_code (p : Prefix) : prefixOfCode p.code = some p := by
  cases p <;> rfl

@[simp] theorem unitOfCode_code (u : UnitName) : unitOfCode u.code = some u := by
  cases u <;> rfl

theorem format_of_codes {r : Reading} {p : Prefix} {u : UnitName} (ho : r.overload = false)
    (hp : r.prefixCode = p.code) (hu : r.unitCode = u.code) :
    format r =
      .next (signChar r :: numberText r.mag.toNat r.dp.toNat ++ p.text ++ u.text) := by
  simp [format, ho, hp, hu]

/-- The table of R91 by code. -/
theorem Prefix.text_getElem? (p : Prefix) :
    [[], ['µ'], ['m'], ['k'], ['M'], ['n']][p.code.toNat]? = some p.text := by
  cases p <;> rfl

/-- The table of R92 by code. -/
theorem UnitName.text_getElem? (u : UnitName) :
    [[], ['V'], ['A'], ['Ω'], ['H', 'z'], ['r', 'p', 'm'], ['F'], ['°', 'C'], ['°', 'F']][
      u.code.toNat]? = some u.text := by
  cases u <;> rfl

theorem value_neg_iff (g : Frame) : (value g).toInt < 0 ↔ neg g = true ∧ mag g ≠ 0 := by
  have hmag : mag g ≠ 0 ↔ 0 < (mag g).toNat := by bv_omega
  rw [value_toInt, hmag]
  split <;> simp [*]

/-- R192: no minus sign at zero. -/
theorem signChar_reading (p : Params) (fid : FuncId) (g : Frame) :
    signChar (reading p fid g) = if neg g = true ∧ mag g ≠ 0 then '-' else '+' :=
  if_congr (value_neg_iff g) rfl rfl

/-- Settles O47: the codes of a reading are those of a prefix and of a unit, so `format` refuses
none. -/
theorem machineReadingsFormat : Obligations.MachineReadingsFormat := by
  intro i s t r hi h hr ho
  obtain ⟨fid, rfl⟩ := seen_eq_reading hi h hr
  obtain ⟨p, hp⟩ := prefixCode_eq s.params fid s.good
  refine ⟨p.text, (unitName fid (judge s.good)).text, ?_, ?_, UnitName.text_getElem? _⟩
  · rw [format_of_codes ho hp rfl, signChar_reading]
    rfl
  · rw [← p.text_getElem?, ← hp]
    rfl

/-! ### The display -/

theorem format_reading_next (p : Params) (fid : FuncId) (g : Frame) :
    ∃ text, format (reading p fid g) = .next text := by
  cases ho : overload g with
  | true => exact ⟨_, format_of_overload ho⟩
  | false =>
    obtain ⟨q, hq⟩ := prefixCode_eq p fid g
    exact ⟨_, format_of_codes ho hq rfl⟩

theorem decodedOutputs_of_written {s : State} (h : s.hasGood = true) :
    s.decodedOutputs = .next (decodeFrame s.params s.good) :=
  if_pos h

theorem display_of_noData {s : State} (h : s.dispState = .noData) : s.display = .next .noData := by
  rw [State.display, h]

theorem display_of_noConn {s : State} (h : s.dispState = .noConn) : s.display = .next .noConn := by
  rw [State.display, h]

theorem display_of_format {s : State} {text : List Char}
    (hd : s.dispState = .fresh ∨ s.dispState = .stale) (hgood : s.hasGood = true)
    (hformat : format (decodeFrame s.params s.good) = .next text) :
    s.display = .next (.text text) := by
  rcases hd with hd | hd <;> simp [State.display, hd, decodedOutputs_of_written hgood, hformat]

/-- Settles O48: in FRESH and in STALE a good frame is held (R39), and its reading formats. -/
theorem displayFollowsTheDisplayState : Obligations.DisplayFollowsTheDisplayState := by
  intro s hs
  refine ⟨display_of_noData, display_of_noConn, fun hd => ?_⟩
  obtain ⟨text, htext⟩ := format_reading_next s.params _ s.good
  exact ⟨text, htext, display_of_format hd (hs.shownHasGood hd) htext⟩

end Sys2Proof.Machine
end

section
/-! The family of 60_exceptions.md: no event and no frame content stops the core (R205), the old
reading after a framing error (R202), and that the bytes no rule reads influence nothing (R206). -/

namespace Sys2Proof.Machine

/-! ### Stops -/

/-- No event stops the core, whatever the state and the byte. -/
theorem exec_event_next {i : Instr} (s : State) (hi : i.isEvent = true) :
    ∃ t, exec i s = .next t := by
  cases i <;> simp only [Instr.isEvent, Bool.false_eq_true] at hi
  case reset => exact ⟨_, exec_reset s⟩
  case commsError => exact ⟨_, exec_commsError s⟩
  case term => exact ⟨_, exec_term s⟩
  case data b =>
    by_cases hfull : s.cnt.toNat + 1 = s.params.maxLen
    · exact ⟨_, exec_data_overflow b hfull⟩
    · exact ⟨_, exec_data_counted b hfull⟩
  case timeout =>
    cases hends : s.params.timeoutEndsFrame
    · exact ⟨_, exec_timeout_quiet hends⟩
    · exact ⟨_, exec_timeout_ending hends⟩
  case idle => exact ⟨_, exec_idle s⟩

/-- A read of the outputs is a read under the function that byte 5 selects (R161, R71). -/
theorem step_observe_eq_readAs {s : State} {rest : List Input}
    (h : s.inputs = .observe :: rest) :
    step s = State.readAs (decodeFuncId s.params.codes s.good[5]) { s with inputs := rest } := by
  rw [step_observe h, decodeFc, exec_function _ (instr_funcId _ _)]

/-- Settles O9: every EV word is an event, which goes on, and so does a read of a written frame. -/
theorem onlyAnUnwrittenReadStops : Obligations.OnlyAnUnwrittenReadStops := by
  intro s
  match hinputs : s.inputs with
  | [] =>
    rw [step_nil hinputs]
    exact .inl ⟨_, exec_idle s⟩
  | .clock w :: rest =>
    rw [step_clock hinputs]
    exact .inl (exec_event_next _ (decodeEv_isEvent w))
  | .observe :: rest =>
    cases hgood : s.hasGood
    · rw [step_observe_eq_readAs hinputs]
      exact .inr ⟨readAs_of_unwritten _ hgood, rfl, rest, rfl⟩
    · exact .inl ⟨_, step_observe_written hgood hinputs⟩

/-! ### The old reading -/

/-- Settles O23: a framing error is no valid cycle, so it promotes nothing (R120), and RESET, which
would clear `has_good`, completes nothing. -/
theorem framingErrorShowsTheOldReading : Obligations.FramingErrorShowsTheOldReading := by
  intro i s t hi h hpulse hframing hheld
  have hreset : i ≠ .reset := by
    rintro rfl
    cases h
    cases hpulse
  have hstale : t.dispState = .stale := by
    obtain ⟨hcompletion, -⟩ := completionsDriveTheDisplayState i s t hi h
    obtain ⟨-, -, hstale, -⟩ := hcompletion hpulse
    exact hstale hframing hheld
  have hkept : t.hasGood = true := by
    obtain ⟨-, hkeeps, -⟩ := onlyResetClearsHasGood i s t h
    exact hkeeps hreset hheld
  have hgood : t.good = s.good := by
    by_contra hchanged
    obtain ⟨-, -, -, hvalid, -⟩ := onlyPromotionWritesGood i s t h hchanged
    cases hvalid.symm.trans hframing
  refine ⟨hstale, hkept, hgood, ?_⟩
  rw [decodedOutputs_of_written hkept, exec_params h, hgood]

/-! ### Unread bytes -/

section
variable {s t : State} (h : Indistinguishable s t)
include h

/-- A cycle of nine bytes or more has no unread entry of `acc`. -/
theorem Indistinguishable.acc_eq (hcnt : 9 ≤ s.cnt.toNat) : s.acc = t.acc :=
  Vector.ext fun i hi => h.acc i hi (Nat.lt_of_lt_of_le hi hcnt)

theorem Indistinguishable.clear : Indistinguishable s.clear t.clear :=
  { h with
    cnt := rfl, hasGood := rfl, frameDone := rfl, frameStatus := rfl, lastCount := rfl,
    dispState := rfl
    acc := fun _ _ hi => absurd hi (Nat.not_lt_zero _)
    good := nofun }

theorem Indistinguishable.endPulse : Indistinguishable s.endPulse t.endPulse :=
  { h with frameDone := rfl }

theorem Indistinguishable.withInputs (rest : List Input) :
    Indistinguishable { s with inputs := rest } { t with inputs := rest } :=
  { h with inputs := rfl }

theorem Indistinguishable.observe (r : Reading) :
    Indistinguishable (s.observe r) (t.observe r) :=
  { h with seen := rfl }

/-- A stored byte makes the two entries at `cnt` equal, so that the cycle may count it. -/
theorem Indistinguishable.storeByte_getElem (b : Byte) {i : Nat} (hi : i < 9)
    (hread : i ≤ s.cnt.toNat) : (s.storeByte b).acc[i] = (t.storeByte b).acc[i] := by
  rw [storeByte_acc_getElem, storeByte_acc_getElem, ← h.cnt]
  split
  · rfl
  · next hne => exact h.acc i hi (Nat.lt_of_le_of_ne hread hne)

theorem Indistinguishable.storeByte (b : Byte) :
    Indistinguishable (s.storeByte b) (t.storeByte b) := by
  rw [storeByte_eq s, storeByte_eq t]
  exact { h with acc := fun _ h9 hi => h.storeByte_getElem b h9 (Nat.le_of_lt hi) }

/-- Counting the stored byte lets the next operations read one entry more, the one just stored. -/
theorem Indistinguishable.storeByte_advance (b : Byte) :
    Indistinguishable (s.storeByte b).advance (t.storeByte b).advance :=
  { h.storeByte b with
    cnt := by simp [h.cnt]
    frameDone := rfl
    acc := by
      intro i h9 hi
      refine h.storeByte_getElem b h9 ?_
      rw [advance_cnt, storeByte_cnt] at hi
      bv_omega }

/-- A completion reads `acc` only when it promotes, `good` never, and leaves no entry of `acc` that
a later operation reads before it is written. -/
theorem Indistinguishable.complete (k : CycleEnd) (n : Nat)
    (hpromoted : classify k n = .valid → s.acc = t.acc) :
    Indistinguishable (s.complete k n) (t.complete k n) where
  params := by simp [h.params]
  cnt := rfl
  acc := fun _ _ hi => absurd hi (Nat.not_lt_zero _)
  good := by
    simp only [complete_hasGood, complete_good]
    split
    · next hvalid => exact fun _ => hpromoted hvalid
    · exact h.good
  hasGood := by simp only [complete_hasGood, h.hasGood]
  frameDone := rfl
  frameStatus := rfl
  lastCount := rfl
  dispState := by simp [h.hasGood, h.dispState]
  inputs := by simp [h.inputs]
  seen := by simp [h.seen]

/-- A cycle that ends with its own count is promoted only when nine bytes are stored. -/
theorem Indistinguishable.complete_cnt (k : CycleEnd) :
    Indistinguishable (s.complete k s.cnt.toNat) (t.complete k t.cnt.toNat) := by
  rw [← h.cnt]
  refine h.complete k _ fun hvalid => h.acc_eq ?_
  exact ((classify_eq_valid_iff _ _).mp hvalid).2.ge

/-- The overflowing byte promotes nothing (R6). -/
theorem Indistinguishable.overflow (b : Byte) :
    Indistinguishable ((s.storeByte b).complete .len s.params.maxLen)
      ((t.storeByte b).complete .len t.params.maxLen) := by
  rw [← h.params]
  refine (h.storeByte b).complete .len _ fun hvalid => ?_
  exact absurd ((classify_eq_valid_iff _ _).mp hvalid).2 s.params.maxLen_ne_nine

theorem exec_event_sameOutcome {i : Instr} (hi : i.isEvent = true) :
    SameOutcome (exec i s) (exec i t) := by
  cases i <;> simp only [Instr.isEvent, Bool.false_eq_true] at hi
  case reset => exact h.clear
  case commsError => exact h.complete_cnt .comms
  case term => exact h.complete_cnt .len
  case data b =>
    by_cases hfull : s.cnt.toNat + 1 = s.params.maxLen
    · rw [exec_data_overflow b hfull, exec_data_overflow b (h.cnt ▸ h.params ▸ hfull)]
      exact h.overflow b
    · rw [exec_data_counted b hfull, exec_data_counted b (h.cnt ▸ h.params ▸ hfull)]
      exact h.storeByte_advance b
  case timeout =>
    cases hends : s.params.timeoutEndsFrame
    · rw [exec_timeout_quiet hends, exec_timeout_quiet (h.params ▸ hends)]
      exact h.endPulse
    · rw [exec_timeout_ending hends, exec_timeout_ending (h.params ▸ hends)]
      exact h.complete_cnt .len
  case idle => exact h.endPulse

/-- The function of a read may come from the bytes of an unwritten frame: the read then faults
under any function (R41). -/
theorem readAs_sameOutcome {fid fid' : FuncId} (hfid : s.hasGood = true → fid = fid') :
    SameOutcome (s.readAs fid) (t.readAs fid') := by
  cases hgood : s.hasGood
  · rw [readAs_of_unwritten fid hgood, readAs_of_unwritten fid' (h.hasGood ▸ hgood)]
    rfl
  · rw [readAs_of_written fid hgood, readAs_of_written fid' (h.hasGood ▸ hgood), hfid hgood,
      h.params, h.good hgood]
    exact h.observe _

end

/-- Settles O56: both states take the same input, and its event or its read has the same outcome
in both. -/
theorem unreadBytesInfluenceNothing : Obligations.UnreadBytesInfluenceNothing := by
  intro s t h
  match hinputs : s.inputs with
  | [] =>
    rw [step_nil hinputs, step_nil (h.inputs ▸ hinputs)]
    exact exec_event_sameOutcome h rfl
  | .clock w :: rest =>
    rw [step_clock hinputs, step_clock (h.inputs ▸ hinputs)]
    exact exec_event_sameOutcome (h.withInputs rest) (decodeEv_isEvent w)
  | .observe :: rest =>
    rw [step_observe_eq_readAs hinputs, step_observe_eq_readAs (h.inputs ▸ hinputs)]
    exact readAs_sameOutcome (h.withInputs rest) fun hgood => by rw [h.params, h.good hgood]

end Sys2Proof.Machine
end

section
/-! The family of 70_reset_and_hazards.md: terminated cycles (R247), runs that
overflow (R248), and a terminator value inside a frame (R243). -/

namespace Sys2Proof.Machine

/-! ### The words of the line -/

theorem rxData_byteWord (b : Byte) : (byteWord b).rxData = b := BitVec.extractLsb'_append_eq_right

theorem byteWord_data_pattern (b : Byte) : byteWord b &&& 0xE00 = 0x200 := by
  change 0b0010#4 ++ b &&& 0b1110#4 ++ 0#8 = 0x200
  rw [BitVec.and_append, BitVec.and_zero]
  rfl

theorem decodeEv_byteWord {b : Byte} (hb : b ≠ terminator) : decodeEv (byteWord b) = .data b := by
  rw [← rxData_byteWord b] at hb
  rw [decodeEv_of_data_pattern (byteWord_data_pattern b) hb, rxData_byteWord]

theorem decodeEv_byteWord_terminator : decodeEv (byteWord terminator) = .term := rfl

/-! ### Runs of clocks, composed -/

/-- The clocks of `ws` lead from `s` to `t`, and `done` are the completions on the way. -/
structure Runs (ws : List EvWord) (s t : State)
    (done : List (Nat × FrameStatus × Option (List Byte))) : Prop where
  clocks : ∀ rest, clocks (ws ++ rest) s = clocks rest t
  completions : ∀ rest, completions (ws ++ rest) s = done ++ completions rest t

section
variable {ws ws' : List EvWord} {s t u : State}
  {done done' : List (Nat × FrameStatus × Option (List Byte))}

theorem Runs.nil (s : State) : Runs [] s s [] := ⟨fun _ => rfl, fun _ => rfl⟩

theorem Runs.append (hst : Runs ws s t done) (htu : Runs ws' t u done') :
    Runs (ws ++ ws') s u (done ++ done') where
  clocks rest := by rw [List.append_assoc, hst.clocks, htu.clocks]
  completions rest := by
    rw [List.append_assoc, hst.completions, htu.completions, List.append_assoc]

theorem Runs.of_no_pulse {w : EvWord} (h : exec (decodeEv w) s = .next t)
    (hpulse : t.frameDone = false) : Runs [w] s t [] :=
  ⟨clocks_cons_of_next h, completions_cons_of_no_pulse h hpulse⟩

theorem Runs.of_pulse {w : EvWord} (h : exec (decodeEv w) s = .next t)
    (hpulse : t.frameDone = true) :
    Runs [w] s t [(t.lastCount.toNat, t.frameStatus, t.goodCell)] :=
  ⟨clocks_cons_of_next h, completions_cons_of_pulse h hpulse⟩

theorem Runs.clocks_eq (h : Runs ws s t done) : Machine.clocks ws s = .next t := by
  simpa [Machine.clocks] using h.clocks []

theorem Runs.completions_eq (h : Runs ws s t done) : Machine.completions ws s = done := by
  simpa [Machine.completions] using h.completions []

end

/-! ### What a run without a valid cycle keeps -/

/-- From `s` to `t` neither the parameters nor the last good frame change. -/
structure KeepsGood (s t : State) : Prop where
  params : t.params = s.params
  hasGood : t.hasGood = s.hasGood
  good : t.good = s.good

theorem KeepsGood.refl (s : State) : KeepsGood s s := ⟨rfl, rfl, rfl⟩

theorem KeepsGood.trans {s t u : State} (hst : KeepsGood s t) (htu : KeepsGood t u) :
    KeepsGood s u :=
  ⟨htu.params.trans hst.params, htu.hasGood.trans hst.hasGood, htu.good.trans hst.good⟩

theorem KeepsGood.goodCell {s t : State} (h : KeepsGood s t) : t.goodCell = s.goodCell :=
  goodCell_congr h.hasGood h.good

theorem storeByte_keepsGood (b : Byte) (s : State) : KeepsGood s (s.storeByte b) :=
  ⟨storeByte_params s b, storeByte_hasGood s b, storeByte_good s b⟩

theorem advance_keepsGood (s : State) : KeepsGood s s.advance := ⟨rfl, rfl, rfl⟩

theorem complete_len_keepsGood {n : Nat} (h : n ≠ 9) (s : State) :
    KeepsGood s (s.complete .len n) := by
  rw [complete_len_of_ne_nine h]
  exact ⟨rfl, rfl, rfl⟩

/-! ### Payload bytes -/

/-- One payload byte that does not fill the cycle is one more byte of it. -/
theorem runs_counted {s : State} {got : List Byte} {b : Byte} (h : s.Holds got)
    (hb : b ≠ terminator) (hroom : got.length + 1 ≠ s.params.maxLen) :
    ∃ t, Runs [byteWord b] s t [] ∧ t.Holds (got ++ [b]) ∧ KeepsGood s t := by
  have hstep : exec (decodeEv (byteWord b)) s = .next (s.storeByte b).advance := by
    rw [decodeEv_byteWord hb, exec_data_counted b (h.count ▸ hroom)]
  exact ⟨_, .of_no_pulse hstep rfl, h.counted b (Nat.lt_of_le_of_ne h.room hroom),
    (storeByte_keepsGood b s).trans (advance_keepsGood _)⟩

/-- The payload byte that fills the cycle ends it as a framing error of `MAX_LEN` bytes (R114). -/
theorem runs_overflow {s : State} {got : List Byte} {b : Byte} (h : s.Holds got)
    (hb : b ≠ terminator) (hfull : got.length + 1 = s.params.maxLen) :
    ∃ t, Runs [byteWord b] s t [(s.params.maxLen, .framingError, s.goodCell)] ∧ t.Holds [] ∧
      KeepsGood s t := by
  have hstep : exec (decodeEv (byteWord b)) s =
      .next ((s.storeByte b).complete .len s.params.maxLen) := by
    rw [decodeEv_byteWord hb, exec_data_overflow b (h.count ▸ hfull)]
  have hkeeps := (storeByte_keepsGood b s).trans
    (complete_len_keepsGood s.params.maxLen_ne_nine (s.storeByte b))
  have hrun := Runs.of_pulse hstep rfl
  rw [complete_lastCount_toNat .len s.params.maxLen_lt, complete_frameStatus, classify_len,
    if_neg s.params.maxLen_ne_nine, hkeeps.goodCell] at hrun
  exact ⟨_, hrun, holds_nil rfl, hkeeps⟩

/-- R248 inside a cycle: of the bytes got before and the bytes to come, each `MAX_LEN` are one
framing error, and the open cycle holds what is left over. -/
theorem runs_payload {bytes : List Byte} {s : State} {got : List Byte} (h : s.Holds got)
    (hbytes : ∀ b ∈ bytes, b ≠ terminator) :
    ∃ t, Runs (bytes.map byteWord) s t
        (List.replicate ((got ++ bytes).length / s.params.maxLen)
          (s.params.maxLen, .framingError, s.goodCell)) ∧
      t.Holds ((got ++ bytes).drop
        ((got ++ bytes).length / s.params.maxLen * s.params.maxLen)) ∧
      KeepsGood s t := by
  induction bytes generalizing s got with
  | nil =>
    refine ⟨s, ?_, ?_, .refl s⟩
    · simpa [Nat.div_eq_of_lt h.room] using Runs.nil s
    · simpa [Nat.div_eq_of_lt h.room] using h
  | cons b bytes ih =>
    rw [List.forall_mem_cons] at hbytes
    obtain ⟨hb, hbytes⟩ := hbytes
    rw [List.append_cons got b bytes, List.map_cons]
    by_cases hfull : got.length + 1 = s.params.maxLen
    · obtain ⟨t, hrun, hholds, hst⟩ := runs_overflow h hb hfull
      obtain ⟨u, hrest, hleft, htu⟩ := ih hholds hbytes
      have hpos : 0 < s.params.maxLen := by omega
      have hlen : (got ++ [b]).length = s.params.maxLen := by simpa using hfull
      have hdrop : (got ++ [b] ++ bytes).drop
          ((bytes.length / s.params.maxLen + 1) * s.params.maxLen) =
            bytes.drop (bytes.length / s.params.maxLen * s.params.maxLen) := by
        rw [Nat.succ_mul, Nat.add_comm, ← hlen, List.drop_length_add_append]
      rw [List.nil_append, hst.params, hst.goodCell] at hrest
      rw [List.nil_append, hst.params] at hleft
      rw [List.length_append, hlen, Nat.add_div_left _ hpos, hdrop]
      exact ⟨u, hrun.append hrest, hleft, hst.trans htu⟩
    · obtain ⟨t, hrun, hholds, hst⟩ := runs_counted h hb hfull
      obtain ⟨u, hrest, hleft, htu⟩ := ih hholds hbytes
      rw [hst.params, hst.goodCell] at hrest
      rw [hst.params] at hleft
      exact ⟨u, hrun.append hrest, hleft, hst.trans htu⟩

/-- Settles O53: from an empty cycle, what is left over has `k mod MAX_LEN` bytes. -/
theorem longRunsOverflow : Obligations.LongRunsOverflow := by
  intro s bytes hcnt hbytes
  obtain ⟨t, hrun, hholds, hkeeps⟩ := runs_payload (holds_nil hcnt) hbytes
  refine ⟨hrun.completions_eq, t, hrun.clocks_eq, ?_, hkeeps.good⟩
  rw [hholds.count, List.length_drop, List.nil_append, Nat.mod_eq_sub_div_mul]

/-! ### Cycles ended by the terminator -/

/-- A terminated cycle with fewer than `MAX_LEN` payload bytes: the terminator completes the cycle
that holds them. -/
theorem runs_cycle {s : State} {bytes : List Byte} (hcnt : s.cnt = 0)
    (hbytes : ∀ b ∈ bytes, b ≠ terminator) (hroom : bytes.length < s.params.maxLen) :
    ∃ t, t.Holds bytes ∧ KeepsGood s t ∧
      Runs (bytes.map byteWord ++ [byteWord terminator]) s (t.complete .len bytes.length)
        [(bytes.length, classify .len bytes.length, (t.complete .len bytes.length).goodCell)] := by
  obtain ⟨t, hpayload, hholds, hkeeps⟩ := runs_payload (holds_nil hcnt) hbytes
  rw [List.nil_append, Nat.div_eq_of_lt hroom] at hpayload hholds
  rw [Nat.zero_mul, List.drop_zero] at hholds
  have hterm : exec (decodeEv (byteWord terminator)) t =
      .next (t.complete .len bytes.length) := by
    rw [decodeEv_byteWord_terminator, exec_term, hholds.count]
  have hrun := hpayload.append (.of_pulse hterm rfl)
  rw [complete_lastCount_toNat .len (hroom.trans s.params.maxLen_lt), complete_frameStatus]
    at hrun
  exact ⟨t, hholds, hkeeps, hrun⟩

/-- Settles O52: the terminator completes a cycle that holds the bytes, and promotes them when they
are nine. -/
theorem ninePayloadBytesAreAccepted : Obligations.NinePayloadBytesAreAccepted := by
  intro s bytes hcnt hbytes hroom
  obtain ⟨t, hholds, hkeeps, hrun⟩ := runs_cycle hcnt hbytes hroom
  refine ⟨_, hrun.clocks_eq, rfl, rfl,
    complete_lastCount_toNat .len (hroom.trans s.params.maxLen_lt) t, fun hnine => ?_,
    fun hother => ?_⟩
  · rw [hnine, complete_len_nine]
    exact ⟨rfl, rfl, rfl, hholds.acc_toList hnine⟩
  · have hend := hkeeps.trans (complete_len_keepsGood hother t)
    refine ⟨?_, hend.hasGood, hend.good⟩
    rw [complete_frameStatus, classify_len, if_neg hother]

/-- A terminated cycle of at most eight payload bytes is a framing error, and the next cycle starts
empty. -/
theorem runs_short_cycle {s : State} {bytes : List Byte} (hcnt : s.cnt = 0)
    (hbytes : ∀ b ∈ bytes, b ≠ terminator) (hshort : bytes.length ≤ 8) :
    ∃ t, t.cnt = 0 ∧ KeepsGood s t ∧
      Runs (bytes.map byteWord ++ [byteWord terminator]) s t
        [(bytes.length, .framingError, s.goodCell)] := by
  have hmax := s.params.maxLenRange.1
  have hother : bytes.length ≠ 9 := by omega
  obtain ⟨t, -, hkeeps, hrun⟩ := runs_cycle hcnt hbytes (by omega)
  have hend := hkeeps.trans (complete_len_keepsGood hother t)
  rw [classify_len, if_neg hother, hend.goodCell] at hrun
  exact ⟨_, rfl, hend, hrun⟩

/-- Settles O55: the 0x0A ends a first cycle of `j` bytes, and the terminator a second one of the
`8 - j` bytes after it. -/
theorem terminatorValueSplitsTheFrame : Obligations.TerminatorValueSplitsTheFrame := by
  intro s before after hcnt hbefore hafter hlen
  obtain ⟨t, hcnt', hst, hfirst⟩ := runs_short_cycle hcnt hbefore (by omega)
  obtain ⟨u, -, -, hsecond⟩ := runs_short_cycle hcnt' hafter (by omega)
  have hrest : after.length = 8 - before.length := by omega
  have hrun := (hfirst.append hsecond).completions_eq
  rw [hst.goodCell, hrest] at hrun
  simpa [terminator] using hrun

end Sys2Proof.Machine
end
